-- ==== Sys2Proof/Word.lean ====
section
/-! DEFINITION. The word types of the core, each a width that spec/00_scope.md R6 fixes or a rule of spec/ states. -/

namespace Sys2Proof

/-- One byte of the frame buffer (10_state.md R20). -/
abbrev Byte := BitVec 8

/-- The value of `SEQ`, program counter and operation code at once (10_state.md R21, 30_encoding.md R55). -/
abbrev SeqCode := BitVec 4

/-- A two-bit field of an operation code, and the analog select code (30_encoding.md R55, R64). -/
abbrev TwoBits := BitVec 2

/-- The `STATUS` register (10_state.md R23). -/
abbrev StatusWord := BitVec 8

/-- A fault cause code, the field `STATUS.CAUSE` (30_encoding.md R65). -/
abbrev CauseCode := BitVec 3

/-- A MillivoltReading: `W_MV` = 16 bits, fixed (00_scope.md R6). -/
abbrev Millivolts := BitVec 16

/-- A DeviceIdentity: `W_ID` = 11 bits, fixed (00_scope.md R6). -/
abbrev Identity := BitVec 11

/-- A whole payload as one value, byte `k` at bits `8k+7:8k` (30_encoding.md R63). -/
abbrev Payload := BitVec 64

end Sys2Proof
end

