-- ==== Sys2Proof/Config.lean ====
section
/-! DEFINITION. The configuration the model takes (spec/00_scope.md R6) and the one value the spec leaves undefined. -/

namespace Sys2Proof

/-- `CH_MAP`: which physical analog input each select code reaches (00_scope.md R6, 20_memory.md R45).
The spec leaves it OPEN and no rule depends on it (41_sampler.md R81). -/
structure ChannelMap where
  /-- the input select code 0 reaches -/
  ch0 : Nat
  /-- the input select code 1 reaches -/
  ch1 : Nat
  /-- the input select code 2 reaches -/
  ch2 : Nat
  /-- the input select code 3, the reference, reaches -/
  ref : Nat
deriving DecidableEq, Repr

/-- The parameters of one core, hardwired while it is out of reset (00_scope.md R6, 70_reset_and_hazards.md R148). -/
structure Config where
  /-- `ADC_BITS`, the resolution of a raw code in bits -/
  adcBits : Nat
  /-- `REF_MV`, the known reference millivolts (K0) -/
  refMv : Nat
  /-- `W_INT`, the width of the converter's intermediate product -/
  wInt : Nat
  /-- `ID_STRAP_HIGH` (K1); it need not fit 11 bits (R7, 43_identity.md R94) -/
  idStrapHigh : Nat
  /-- `ID_STRAP_LOW` (K2); it need not fit 11 bits (R7, 43_identity.md R94) -/
  idStrapLow : Nat
  /-- `PLAUS_MIN` (K3), the smallest plausible reference code -/
  plausMin : Nat
  /-- `PLAUS_MAX` (K4), the largest plausible reference code -/
  plausMax : Nat
  /-- `PERIOD_COUNT` (K5), timebase events per period; OPEN in R6 -/
  periodCount : Nat
  /-- `PERIOD` in milliseconds; no rule depends on it (70_reset_and_hazards.md R157) -/
  periodMs : Nat
  /-- `CH_MAP`; OPEN in R6, no rule depends on it -/
  chMap : ChannelMap
deriving DecidableEq, Repr

namespace Config

/-- `MAX_CODE`, the largest raw code, `2^ADC_BITS - 1` (00_scope.md R6). -/
def maxCode (c : Config) : Nat := 2 ^ c.adcBits - 1

/-- The reference configuration (00_scope.md R6). `periodCount` and `chMap` are OPEN there:
DESIGN CHOICE 1 and the identity map (log 3). -/
def reference : Config where
  adcBits := 12
  refMv := 1230
  wInt := 32
  idStrapHigh := 0x110
  idStrapLow := 0x111
  plausMin := 77
  plausMax := 4095
  periodCount := 1
  periodMs := 10
  chMap := ⟨0, 1, 2, 3⟩

/-- The free value for a zero divisor: the divider "has no defined result for a zero divisor" (42_converter.md R87).
It has no body, so nothing can be proved of its value (log 6). The argument is the numerator. -/
opaque zeroDivisorResult : Nat → Millivolts

end Config

end Sys2Proof
end

