-- ==== Sys2Proof/Machine/State.lean ====
section
/-! DEFINITION. The state of the machine as plain data (spec/10_state.md R13), what the outside may do to it, the reasons a
step can stop, and the state after reset (spec/10_state.md R33). -/

namespace Sys2Proof.Machine

/-- One register for each channel 0, 1, 2 (10_state.md R14, R15). -/
structure PerChannel (α : Type) where
  /-- channel 0 -/
  ch0 : α
  /-- channel 1 -/
  ch1 : α
  /-- channel 2 -/
  ch2 : α
deriving DecidableEq, Repr

/-- The frame buffer `TXBUF`, the core's only memory: the written bytes by offset, offsets strictly rising
(10_state.md R20). An unlisted byte holds no value (10_state.md R32; log 5). -/
abbrev Memory := List Host.Cell

/-- Which data registers hold a value: "A register that nothing has written holds no value" (10_state.md R32; log 4).
No operation reads a mark. `TXBUF` needs none: a byte it does not list holds no value. -/
structure Held where
  /-- `RAW[0..2]` -/
  raw : PerChannel Bool
  /-- `MV[0..2]` -/
  mv : PerChannel Bool
  /-- `CAL_RAW` -/
  calRaw : Bool
  /-- `DEV_ID` -/
  devId : Bool
  /-- `TXID` -/
  txid : Bool
deriving DecidableEq, Repr

/-- One event of the event history (00_scope.md R11). -/
inductive Event where
  /-- `AdcRead(sel) = v` -/
  | adcRead (sel : TwoBits) (v : Nat)
  /-- `StrapRead() = b` -/
  | strapRead (b : Bool)
  /-- `BusTransmit(id, payload)` -/
  | busTransmit (id : Identity) (payload : Payload)
  /-- `BusDone` -/
  | busDone
  /-- `Tick` -/
  | tick
  /-- `Fault(cause)` -/
  | fault (cause : CauseCode)
deriving DecidableEq, Repr

/-- What happens at CORE and its ports in one instant. The agents are those of 00_scope.md R10; which of them acts is free
(log 1). A response names the process lifetime in which its request was made, so that one which comes after a reset is known as late
(70_reset_and_hazards.md R145; log 19). -/
inductive Act where
  /-- CORE makes its move and no collaborator answers -/
  | core
  /-- ADC presents the raw code `v`; CORE takes it if it is waiting for one (20_memory.md R41) -/
  | adcAnswer (lifetime : Nat) (v : Nat)
  /-- STRAP presents the level `b`; CORE takes it if it is waiting for one (20_memory.md R42) -/
  | strapAnswer (lifetime : Nat) (b : Bool)
  /-- BUS reports completion (20_memory.md R43) -/
  | busDone (lifetime : Nat)
  /-- nothing happens at CORE or its ports -/
  | idle
deriving DecidableEq, Repr

/-- One instant of a run: a change of the reset input (70_reset_and_hazards.md R142), or an act with or without a timebase
event at the same instant (45_scheduler.md R116, R118). -/
inductive Instant where
  /-- HOST asserts (`true`) or releases (`false`) the reset input -/
  | reset (asserted : Bool)
  /-- `act`, and a timebase event with it if `timebase` -/
  | run (act : Act) (timebase : Bool)
deriving DecidableEq, Repr

/-- The state of the core (10_state.md R13), its port lines (60_exceptions.md R139), the event history (00_scope.md R11) and
what the outside does next (the model's own field, log 1). -/
structure State where
  /-- the hardwired constants K0 to K5 and the other parameters (10_state.md R13, 00_scope.md R6) -/
  cfg : Config
  /-- `SEQ` (10_state.md R21) -/
  seq : SeqCode
  /-- `STATUS` (10_state.md R23) -/
  status : StatusWord
  /-- `RAW[0..2]`, each `ADC_BITS` bits, held as naturals (10_state.md R14; log 8) -/
  raw : PerChannel Nat
  /-- `MV[0..2]` (10_state.md R15) -/
  mv : PerChannel Millivolts
  /-- `CAL_RAW`, `ADC_BITS` bits, held as a natural (10_state.md R16; log 8) -/
  calRaw : Nat
  /-- `DEV_ID` (10_state.md R18) -/
  devId : Identity
  /-- `TXID` (10_state.md R19) -/
  txid : Identity
  /-- `TXBUF[0..7]` (10_state.md R20) -/
  txbuf : Memory
  /-- `PTMR`, the period down-counter (10_state.md R28) -/
  ptmr : Nat
  /-- `TX_BUSY` (10_state.md R29) -/
  txBusy : Bool
  /-- which data registers hold a value (10_state.md R32) -/
  held : Held
  /-- the ASEL answer line: the code presented at this instant, if any (60_exceptions.md R131, R139) -/
  adcAns : Option Nat
  /-- the STRAP answer line: the level presented at this instant, if any (60_exceptions.md R131, R139) -/
  strapAns : Option Bool
  /-- the reset input (70_reset_and_hazards.md R142) -/
  resetIn : Bool
  /-- which process lifetime this is, the number of times reset has been asserted (00_scope.md R12, 70_reset_and_hazards.md R143, R145;
  the model's own field, log 19) -/
  lifetime : Nat
  /-- the event history, oldest event first (00_scope.md R11) -/
  history : List Event
  /-- what the outside does next, the next instant first (log 1) -/
  env : List Instant
deriving DecidableEq, Repr

/-- The reasons the MODEL stops where the spec itself asks for a model fault. The core's own four faults (60_exceptions.md R122)
are no constructors here: the machine goes on from them, halted, so they are next states. -/
inductive Fault where
  /-- Raised by `TXREQ` through `memRead`: a byte of `TXBUF` that nothing has written (10_state.md R32). Safe. -/
  | frameByteUnwritten
  /-- Raised by `memRead` and `memWrite`: an access with `addr + n > 8` does not exist (20_memory.md R36). No operation forms one
  (R38). Safe. -/
  | frameAddressOutside
  /-- Raised by `CONV c`: a quotient of `2^16` or more is a model fault (42_converter.md R91). Safe. -/
  | quotientTooWide
deriving DecidableEq, Repr

/-- The reasons the model gives no meaning. -/
inductive Refusal where
  /-- Raised by `exec` for an operation that has no meaning yet. Safe. -/
  | notModelled (mnemonic : String)
  /-- Raised by `step`: "A configuration is well formed, and a model refuses any other" (00_scope.md R7). Safe. -/
  | configNotWellFormed
deriving DecidableEq, Repr

/-- The same thing in all three channels. -/
def PerChannel.all {α : Type} (a : α) : PerChannel α := ⟨a, a, a⟩

/-- No data register holds a value (10_state.md R33). -/
def Held.none : Held where
  raw := PerChannel.all false
  mv := PerChannel.all false
  calRaw := false
  devId := false
  txid := false

/-- Every field at its reset value (10_state.md R33), for a core configured as `cfg`. `RAW`, `MV`, `CAL_RAW`, `DEV_ID` and `TXID`
have no value there: DESIGN CHOICE 0, each marked as holding no value (log 4). -/
def State.resetWith (cfg : Config) : State where
  cfg := cfg
  seq := 0x0
  status := 0x00
  raw := PerChannel.all 0
  mv := PerChannel.all 0
  calRaw := 0
  devId := 0
  txid := 0
  txbuf := []
  ptmr := cfg.periodCount - 1
  txBusy := false
  held := Held.none
  adcAns := Option.none
  strapAns := Option.none
  resetIn := false
  lifetime := 0
  history := []
  env := []

/-- The machine right after reset, in the reference configuration (10_state.md R33, 70_reset_and_hazards.md R143). -/
def State.reset : State := State.resetWith Config.reference

end Sys2Proof.Machine
end

