-- ==== Sys2Proof/Machine/Flags.lean ====
section
/-! DEFINITION. The fields of `STATUS` (spec/10_state.md R23): reading each, and the one update each of its writers makes. -/

namespace Sys2Proof.Machine

/-- `STATUS.CAL_VALID`, bit 0 (10_state.md R24). -/
def State.calValid (s : State) : Bool := s.status.getLsbD 0

/-- `STATUS.ID_VALID`, bit 1 (10_state.md R25). -/
def State.idValid (s : State) : Bool := s.status.getLsbD 1

/-- `STATUS.TICK_PEND`, bit 2 (10_state.md R26). -/
def State.tickPend (s : State) : Bool := s.status.getLsbD 2

/-- `STATUS.FAULT`, bit 3 (10_state.md R27). -/
def State.faultFlag (s : State) : Bool := s.status.getLsbD 3

/-- `STATUS.CAUSE`, bits 6:4 (10_state.md R27, 30_encoding.md R65). -/
def State.cause (s : State) : CauseCode := s.status.extractLsb' 4 3

/-- The STATUS output port: the register, of which reserved bit 7 reads 0 (10_state.md R23, 60_exceptions.md R139). -/
def State.statusOut (s : State) : StatusWord := s.status &&& 0x7F#8

/-- `STATUS.CAL_VALID <- 1`. -/
def setCalValid (s : State) : State := { s with status := s.status ||| 0x01#8 }

/-- `STATUS.ID_VALID <- 1`. -/
def setIdValid (s : State) : State := { s with status := s.status ||| 0x02#8 }

/-- `STATUS.TICK_PEND <- 1`. -/
def setTickPend (s : State) : State := { s with status := s.status ||| 0x04#8 }

/-- `STATUS.TICK_PEND <- 0`. -/
def clearTickPend (s : State) : State := { s with status := s.status &&& 0xFB#8 }

/-- `STATUS.FAULT <- 1` and `STATUS.CAUSE <- code`; if `FAULT` is already 1, `CAUSE` keeps its first value
(60_exceptions.md R128). -/
def setFault (code : CauseCode) (s : State) : State :=
  if s.faultFlag then s else { s with status := (s.status &&& 0x8F#8) ||| (code.setWidth 8 <<< 4) ||| 0x08#8 }

end Sys2Proof.Machine
end

