-- ==== Sys2Proof/Syntax.lean ====
section
/-! DEFINITION. The operations of the core: one constructor for each row of spec/opcode_table.json
(spec/30_encoding.md R57). -/

namespace Sys2Proof

/-- The channel operand `c` of `SAMP` and `CONV` (30_encoding.md R56): 0, 1 or 2. -/
inductive Channel where
  | ch0
  | ch1
  | ch2
deriving DecidableEq, Repr

/-- The sixteen `SEQ` codes (30_encoding.md R57). -/
inductive Instr where
  /-- `CALREF`, code 0x0 -/
  | calref
  /-- `RESID`, code 0x1 -/
  | resid
  /-- `WTICK`, code 0x2 -/
  | wtick
  /-- `HALT`, code 0x3 -/
  | halt
  /-- `SAMP 0`, code 0x4 -/
  | samp0
  /-- `SAMP 1`, code 0x5 -/
  | samp1
  /-- `SAMP 2`, code 0x6 -/
  | samp2
  /-- reserved code 0x7 -/
  | reserved7
  /-- `CONV 0`, code 0x8 -/
  | conv0
  /-- `CONV 1`, code 0x9 -/
  | conv1
  /-- `CONV 2`, code 0xA -/
  | conv2
  /-- reserved code 0xB -/
  | reservedB
  /-- `ENC`, code 0xC -/
  | enc
  /-- `TXREQ`, code 0xD -/
  | txreq
  /-- `TXWAIT`, code 0xE -/
  | txwait
  /-- reserved code 0xF -/
  | reservedF
deriving DecidableEq, Repr

end Sys2Proof
end

