-- ==== Sys2Proof/Decode.lean ====
section
/-! DEFINITION. The operation code format `SEQ4` (spec/30_encoding.md R55 to R59): decoding, then encoding. -/

namespace Sys2Proof

/-- Why a word is no operation code. -/
inductive DecodeError where
  /-- a bit above bit 3 is set: `SEQ4` has one length, four bits (30_encoding.md R55) -/
  | widerThanFourBits
deriving DecidableEq, Repr

/-- Decoding is an exact match on all four bits, bit 3 first (30_encoding.md R57, R59). Every code has its row, the three
reserved codes theirs, so no code falls through to another (R58). -/
def decode (w : SeqCode) : Instr :=
  match w.getLsbD 3, w.getLsbD 2, w.getLsbD 1, w.getLsbD 0 with
  | false, false, false, false => .calref
  | false, false, false, true  => .resid
  | false, false, true,  false => .wtick
  | false, false, true,  true  => .halt
  | false, true,  false, false => .samp0
  | false, true,  false, true  => .samp1
  | false, true,  true,  false => .samp2
  | false, true,  true,  true  => .reserved7
  | true,  false, false, false => .conv0
  | true,  false, false, true  => .conv1
  | true,  false, true,  false => .conv2
  | true,  false, true,  true  => .reservedB
  | true,  true,  false, false => .enc
  | true,  true,  false, true  => .txreq
  | true,  true,  true,  false => .txwait
  | true,  true,  true,  true  => .reservedF

/-- Decoding a number: an operation code is four bits and no more (30_encoding.md R55). -/
def decodeNumber (w : Nat) : Except DecodeError Instr :=
  if w < 16 then .ok (decode (BitVec.ofNat 4 w)) else .error .widerThanFourBits

/-- The same decoder on a word numbered as spec/opcode_table.json numbers it, of which `nbits` bits are given and the bits
above are 0 (log 14). -/
def decodeTableWord (nbits w : Nat) : Option Instr :=
  (decodeNumber (w % 2 ^ nbits)).toOption

/-- The group field `g`, bits 3:2 (30_encoding.md R55, R57). -/
def Instr.group : Instr → TwoBits
  | .calref => 0b00
  | .resid => 0b00
  | .wtick => 0b00
  | .halt => 0b00
  | .samp0 => 0b01
  | .samp1 => 0b01
  | .samp2 => 0b01
  | .reserved7 => 0b01
  | .conv0 => 0b10
  | .conv1 => 0b10
  | .conv2 => 0b10
  | .reservedB => 0b10
  | .enc => 0b11
  | .txreq => 0b11
  | .txwait => 0b11
  | .reservedF => 0b11

/-- The field `c`, bits 1:0: the channel index in groups 0b01 and 0b10, a sub-operation selector in the others
(30_encoding.md R55, R56). -/
def Instr.sub : Instr → TwoBits
  | .calref => 0b00
  | .resid => 0b01
  | .wtick => 0b10
  | .halt => 0b11
  | .samp0 => 0b00
  | .samp1 => 0b01
  | .samp2 => 0b10
  | .reserved7 => 0b11
  | .conv0 => 0b00
  | .conv1 => 0b01
  | .conv2 => 0b10
  | .reservedB => 0b11
  | .enc => 0b00
  | .txreq => 0b01
  | .txwait => 0b10
  | .reservedF => 0b11

/-- The code of an operation: `g` above `c` (30_encoding.md R55). -/
def encode (i : Instr) : SeqCode := i.group ++ i.sub

end Sys2Proof
end

