-- ==== Sys2Proof/Machine/Operands.lean ====
section
/-! DEFINITION. The operands of an operation (spec/30_encoding.md R56): the channel field and the registers and select code
it names, and the constants an operation reads. -/

namespace Sys2Proof.Machine

/-- The register of channel `c`. -/
def PerChannel.get {α : Type} (r : PerChannel α) : Channel → α
  | .ch0 => r.ch0
  | .ch1 => r.ch1
  | .ch2 => r.ch2

/-- The registers with channel `c`'s replaced. -/
def PerChannel.set {α : Type} (r : PerChannel α) (c : Channel) (a : α) : PerChannel α :=
  match c with
  | .ch0 => { r with ch0 := a }
  | .ch1 => { r with ch1 := a }
  | .ch2 => { r with ch2 := a }

/-- The analog select code of a channel, its index used as is (30_encoding.md R56, R64). -/
def channelSelect : Channel → TwoBits
  | .ch0 => 0
  | .ch1 => 1
  | .ch2 => 2

/-- The select code of the on-chip reference (20_memory.md R45). -/
def referenceSelect : TwoBits := 3

/-- Whether an operation waits for an answer on the ASEL port: `CALREF` and `SAMP c` (60_exceptions.md R139). -/
def asksAdc : Instr → Bool
  | .calref => true
  | .samp0 => true
  | .samp1 => true
  | .samp2 => true
  | .resid => false
  | .wtick => false
  | .halt => false
  | .reserved7 => false
  | .conv0 => false
  | .conv1 => false
  | .conv2 => false
  | .reservedB => false
  | .enc => false
  | .txreq => false
  | .txwait => false
  | .reservedF => false

/-- Whether an operation waits for an answer on the STRAP port: `RESID` alone (60_exceptions.md R139). -/
def asksStrap : Instr → Bool
  | .resid => true
  | .calref => false
  | .samp0 => false
  | .samp1 => false
  | .samp2 => false
  | .wtick => false
  | .halt => false
  | .reserved7 => false
  | .conv0 => false
  | .conv1 => false
  | .conv2 => false
  | .reservedB => false
  | .enc => false
  | .txreq => false
  | .txwait => false
  | .reservedF => false

/-- `plausible(v)`: the window is inclusive (40_calibration.md R73). -/
def plausible (cfg : Config) (v : Nat) : Bool := decide (cfg.plausMin ≤ v) && decide (v ≤ cfg.plausMax)

/-- `ResolveId(b)`: the high strap selects `ID_STRAP_HIGH` (43_identity.md R93). -/
def strapIdentity (cfg : Config) (b : Bool) : Nat := if b then cfg.idStrapHigh else cfg.idStrapLow

/-- The largest DeviceIdentity, 0x7FF (43_identity.md R92). -/
def maxIdentity : Nat := 0x7FF

end Sys2Proof.Machine
end

