-- ==== Sys2Proof/Machine/Ops.lean ====
section
/-! DEFINITION. The named operations every meaning is built from: control transfer, the event history, the data registers,
the frame buffer, the ports, and fault entry. -/

namespace Sys2Proof.Machine

/-- What a meaning answers. -/
abbrev Result := Host.Outcome State Fault Refusal

/-! ## Control transfer and the event history -/

/-- `hold`: the operation does not complete and writes nothing (00_scope.md R9). -/
def hold (s : State) : Result := .next s

/-- `SEQ <- i` (00_scope.md R9, 45_scheduler.md R109). -/
def goTo (i : Instr) (s : State) : State := { s with seq := encode i }

/-- An event is appended to the event history (00_scope.md R11). -/
def record (e : Event) (s : State) : State := { s with history := s.history ++ [e] }

/-! ## Data registers -/

/-- `RAW[c] <- v` (10_state.md R14). -/
def writeRaw (c : Channel) (v : Nat) (s : State) : State :=
  { s with raw := s.raw.set c v, held := { s.held with raw := s.held.raw.set c true } }

/-- `MV[c] <- v` (10_state.md R15). -/
def writeMv (c : Channel) (v : Millivolts) (s : State) : State :=
  { s with mv := s.mv.set c v, held := { s.held with mv := s.held.mv.set c true } }

/-- `CAL_RAW <- v` (10_state.md R16). -/
def writeCalRaw (v : Nat) (s : State) : State :=
  { s with calRaw := v, held := { s.held with calRaw := true } }

/-- `DEV_ID <- v` (10_state.md R18). -/
def writeDevId (v : Identity) (s : State) : State :=
  { s with devId := v, held := { s.held with devId := true } }

/-- `TXID <- v` (10_state.md R19). -/
def writeTxid (v : Identity) (s : State) : State :=
  { s with txid := v, held := { s.held with txid := true } }

/-! ## The frame buffer -/

/-- `PAYLOAD_LEN`, the bytes of `TXBUF` (00_scope.md R6, 20_memory.md R35). -/
def payloadLen : Nat := 8

/-- The canonical form of the frame buffer: offsets strictly rising, none outside the buffer. An unlisted byte has no value, so
no entry can equal what an unlisted one reads as. -/
abbrev Memory.wf (m : Memory) : Prop :=
  m.Pairwise (fun x y => x.1 < y.1) ∧ ∀ x ∈ m, x.1 < payloadLen

/-- The byte at an offset, if it holds a value. -/
def Memory.read : Memory → Nat → Option Byte
  | [], _ => none
  | (x, b) :: m, a => if a = x then some b else Memory.read m a

/-- The buffer with the byte at an offset replaced. -/
def Memory.write : Memory → Nat → Byte → Memory
  | [], a, b => [(a, b)]
  | (x, y) :: m, a, b =>
    if a < x then (a, b) :: (x, y) :: m
    else if a = x then (a, b) :: m
    else (x, y) :: Memory.write m a b

/-- The widths an access has: `n` in {1, 2, 8} (20_memory.md R36). -/
inductive AccessWidth where
  | one
  | two
  | eight
deriving DecidableEq, Repr

/-- An access's width in bytes. -/
def AccessWidth.bytes : AccessWidth → Nat
  | .one => 1
  | .two => 2
  | .eight => 8

/-- `n` bytes of `v`, least significant first, from offset `a` up (20_memory.md R36). -/
def storeBytes (v : Payload) (m : Memory) (a : Nat) : Nat → Memory
  | 0 => m
  | n + 1 => storeBytes (v >>> 8) (m.write a (v.setWidth 8)) (a + 1) n

/-- `n` bytes from offset `a` up as one value, the byte at `a` least significant (20_memory.md R36). A byte nothing has written
has no value to give (10_state.md R32). -/
def loadBytes (m : Memory) (a : Nat) : Nat → Except Fault Payload
  | 0 => .ok 0
  | n + 1 =>
    match m.read a, loadBytes m (a + 1) n with
    | some b, .ok v => .ok ((v <<< 8) ||| b.setWidth 64)
    | none, _ => .error .frameByteUnwritten
    | some _, .error f => .error f

/-- `MemWrite(addr, n, v)` (20_memory.md R36). -/
def memWrite (a : Nat) (n : AccessWidth) (v : Payload) (m : Memory) : Except Fault Memory :=
  if a + n.bytes ≤ payloadLen then .ok (storeBytes v m a n.bytes) else .error .frameAddressOutside

/-- `MemRead(addr, n)`, zero-extended to the width of the whole buffer (20_memory.md R36). -/
def memRead (a : Nat) (n : AccessWidth) (m : Memory) : Except Fault Payload :=
  if a + n.bytes ≤ payloadLen then loadBytes m a n.bytes else .error .frameAddressOutside

/-! ## Ports -/

/-- The raw code the ASEL port presents at this instant. The port is `ADC_BITS` wide, so no other value can be expressed on it
(20_memory.md R41, R53; log 8). -/
def adcLine (s : State) : Option Nat :=
  match s.adcAns with
  | some v => if v ≤ s.cfg.maxCode then some v else none
  | none => none

/-- The ASEL answer `v` to select code `sel` is taken: the line is withdrawn and the event appended
(20_memory.md R41, 60_exceptions.md R131). -/
def takeAdc (sel : TwoBits) (v : Nat) (s : State) : State :=
  record (.adcRead sel v) { s with adcAns := none }

/-- `v <- AdcRead(sel)` and then `k v`; the operation holds until the collaborator answers (20_memory.md R41). -/
def withAdcRead (sel : TwoBits) (k : Nat → State → Result) (s : State) : Result :=
  match adcLine s with
  | none => hold s
  | some v => k v (takeAdc sel v s)

/-- The STRAP answer `b` is taken: the line is withdrawn and the event appended (20_memory.md R42, 60_exceptions.md R131). -/
def takeStrap (b : Bool) (s : State) : State :=
  record (.strapRead b) { s with strapAns := none }

/-- `b <- StrapRead()` and then `k b`; the operation holds until the collaborator answers (20_memory.md R42). -/
def withStrapRead (k : Bool → State → Result) (s : State) : Result :=
  match s.strapAns with
  | none => hold s
  | some b => k b (takeStrap b s)

/-- `BusTransmit(id, payload)`: the event is appended and `TX_BUSY <- 1` (20_memory.md R43). -/
def busTransmit (id : Identity) (p : Payload) (s : State) : State :=
  record (.busTransmit id p) { s with txBusy := true }

/-! ## Fault entry

There is no return from a fault: only reset leaves `HALT` (60_exceptions.md R129), and that is `resetInput` of
Machine/Agents.lean. -/

/-- The core's four faults (60_exceptions.md R122). -/
inductive Cause where
  | calZero
  | calImplausible
  | idInvalid
  | seqIllegal
deriving DecidableEq, Repr

/-- A fault's cause code (60_exceptions.md R122). -/
def Cause.code : Cause → CauseCode
  | .calZero => 1
  | .calImplausible => 2
  | .idInvalid => 3
  | .seqIllegal => 4

/-- Fault entry, one indivisible step in place of the completion of the operation that raised it: the fault is recorded in
`STATUS`, `SEQ <- HALT`, the event appended, and nothing else changes (60_exceptions.md R128). -/
def raise (f : Cause) (s : State) : Result :=
  .next (goTo .halt (record (.fault f.code) (setFault f.code s)))

end Sys2Proof.Machine
end

