-- ==== Sys2Proof/Machine/Agents.lean ====
section
/-! DEFINITION. The steps of the agents other than CORE: TIMER (spec/45_scheduler.md R115, R116), BUS (spec/20_memory.md R43),
ADC and STRAP presenting an answer (spec/20_memory.md R41, R42), and HOST's reset input
(spec/70_reset_and_hazards.md R142, R143). -/

namespace Sys2Proof.Machine

/-- TIMER's tick step (45_scheduler.md R115). A second tick while one is pending merges into it (R117). -/
def timerTick (s : State) : State := record .tick (setTickPend s)

/-- One timebase event (45_scheduler.md R116). -/
def timebaseEvent (s : State) : State :=
  if s.ptmr = 0 then timerTick { s with ptmr := s.cfg.periodCount - 1 } else { s with ptmr := s.ptmr - 1 }

/-- BUS's step, complete, enabled exactly when `TX_BUSY = 1` (20_memory.md R43); a spurious completion has no effect (R54). -/
def busComplete (s : State) : State :=
  if s.txBusy then record .busDone { s with txBusy := false } else s

/-- The reset input changes. Asserting it puts every piece of state at its reset value and forgets what was outstanding
(70_reset_and_hazards.md R143, R145); releasing it leaves the core there, to start at `CALREF` (R144). What the outside does next is
not the core's and stays (log 12). An assertion ends a process lifetime (log 19). -/
def resetInput (asserted : Bool) (s : State) : State :=
  if asserted then { State.resetWith s.cfg with resetIn := true, lifetime := s.lifetime + 1, env := s.env }
  else { s with resetIn := false }

end Sys2Proof.Machine
end

