-- ==== Sys2Proof/Machine/Calibration.lean ====
section
/-! DEFINITION. The Calibration Source: `CALREF` (spec/40_calibration.md). -/

namespace Sys2Proof.Machine

/-- `CALREF` (40_calibration.md R71). Zero is tested before the window, so it always reports `CAL_ZERO`. -/
def execCalref (s : State) : Result :=
  withAdcRead referenceSelect (fun v t =>
    if v = 0 then raise .calZero t
    else if plausible t.cfg v then .next (goTo .resid (setCalValid (writeCalRaw v t)))
    else raise .calImplausible t) s

end Sys2Proof.Machine
end

