-- ==== Sys2Proof/Machine/Converter.lean ====
section
/-! DEFINITION. The Voltage Converter: `CONV c` (spec/42_converter.md). -/

namespace Sys2Proof.Machine

/-- `ToMv(r, m, d)`, for `d` other than 0: the exact product first, then the division that discards the remainder
(42_converter.md R83, R84, R85). -/
def toMv (r m d : Nat) : Nat := r * m / d

/-- The 16-bit reading. A zero divisor has no defined result, so the value is free (42_converter.md R87; log 6). A quotient of
`2^16` or more is a model fault (42_converter.md R91; log 7). -/
def reading (r m d : Nat) : Except Fault Millivolts :=
  if d = 0 then .ok (Config.zeroDivisorResult (r * m))
  else if toMv r m d < 2 ^ 16 then .ok (BitVec.ofNat 16 (toMv r m d))
  else .error .quotientTooWide

/-- `CONV c` with its successor (42_converter.md R82). -/
def convertChannel (c : Channel) (successor : Instr) (s : State) : Result :=
  match reading (s.raw.get c) s.cfg.refMv s.calRaw with
  | .ok v => .next (goTo successor (writeMv c v s))
  | .error f => .fault f

/-- `CONV 0` (42_converter.md R82). -/
def execConv0 (s : State) : Result := convertChannel .ch0 .conv1 s

/-- `CONV 1` (42_converter.md R82). -/
def execConv1 (s : State) : Result := convertChannel .ch1 .conv2 s

/-- `CONV 2` (42_converter.md R82). -/
def execConv2 (s : State) : Result := convertChannel .ch2 .enc s

end Sys2Proof.Machine
end

