-- ==== Sys2Proof/Machine/Frame.lean ====
section
/-! DEFINITION. The Frame Encoder and the transmit hand-over: `ENC`, `TXREQ`, `TXWAIT` (spec/44_frame_encoder.md). -/

namespace Sys2Proof.Machine

/-- The four writes of `ENC` into the frame buffer, readings at offsets 0, 2, 4 and zeros at 6 (44_frame_encoder.md R97). -/
def packReadings (mv : PerChannel Millivolts) (m : Memory) : Except Fault Memory :=
  memWrite 0 .two (mv.ch0.setWidth 64) m >>= fun m =>
  memWrite 2 .two (mv.ch1.setWidth 64) m >>= fun m =>
  memWrite 4 .two (mv.ch2.setWidth 64) m >>= fun m =>
  memWrite 6 .two 0x0000 m

/-- `ENC` (44_frame_encoder.md R97). -/
def execEnc (s : State) : Result :=
  match packReadings s.mv s.txbuf with
  | .ok m => .next (goTo .txreq { writeTxid s.devId s with txbuf := m })
  | .error f => .fault f

/-- `TXREQ` (44_frame_encoder.md R102). -/
def execTxreq (s : State) : Result :=
  match memRead 0 .eight s.txbuf with
  | .ok p => .next (goTo .txwait (busTransmit s.txid p s))
  | .error f => .fault f

/-- `TXWAIT` (44_frame_encoder.md R103). -/
def execTxwait (s : State) : Result :=
  if s.txBusy then hold s else .next (goTo .wtick s)

end Sys2Proof.Machine
end

