-- ==== Sys2Proof/Machine/Identity.lean ====
section
/-! DEFINITION. The Identity Resolver: `RESID` (spec/43_identity.md). -/

namespace Sys2Proof.Machine

/-- `RESID` (43_identity.md R92). Only the constant the strap selects is tested. -/
def execResid (s : State) : Result :=
  withStrapRead (fun b t =>
    if strapIdentity t.cfg b ≤ maxIdentity then
      .next (goTo .wtick (setIdValid (writeDevId (BitVec.ofNat 11 (strapIdentity t.cfg b)) t)))
    else raise .idInvalid t) s

end Sys2Proof.Machine
end

