-- ==== Sys2Proof/Machine/Sampler.lean ====
section
/-! DEFINITION. The Channel Sampler: `SAMP c` (spec/41_sampler.md). -/

namespace Sys2Proof.Machine

/-- `SAMP c` with its successor: the code is stored unchanged, with no check (41_sampler.md R77, R79). -/
def sampleChannel (c : Channel) (successor : Instr) (s : State) : Result :=
  withAdcRead (channelSelect c) (fun v t => .next (goTo successor (writeRaw c v t))) s

/-- `SAMP 0` (41_sampler.md R77). -/
def execSamp0 (s : State) : Result := sampleChannel .ch0 .samp1 s

/-- `SAMP 1` (41_sampler.md R77). -/
def execSamp1 (s : State) : Result := sampleChannel .ch1 .samp2 s

/-- `SAMP 2` (41_sampler.md R77). -/
def execSamp2 (s : State) : Result := sampleChannel .ch2 .conv0 s

end Sys2Proof.Machine
end

