-- ==== Sys2Proof/Machine/Scheduler.lean ====
section
/-! DEFINITION. The Cycle Scheduler's own operations: `WTICK`, `HALT` (spec/45_scheduler.md), and what a reserved code does
(spec/60_exceptions.md R126). -/

namespace Sys2Proof.Machine

/-- `WTICK` (45_scheduler.md R107). -/
def execWtick (s : State) : Result :=
  if s.tickPend then .next (goTo .samp0 (clearTickPend s)) else hold s

/-- `HALT` holds for ever (45_scheduler.md R108). -/
def execHalt (s : State) : Result := hold s

/-- Reserved code 0x7: the fault `SEQ_ILLEGAL` (60_exceptions.md R126). -/
def execReserved7 (s : State) : Result := raise .seqIllegal s

/-- Reserved code 0xB: the fault `SEQ_ILLEGAL` (60_exceptions.md R126). -/
def execReservedB (s : State) : Result := raise .seqIllegal s

/-- Reserved code 0xF: the fault `SEQ_ILLEGAL` (60_exceptions.md R126). -/
def execReservedF (s : State) : Result := raise .seqIllegal s

end Sys2Proof.Machine
end

