-- ==== Sys2Proof/Machine/Dispatch.lean ====
section
/-! DEFINITION. One arm for each operation code (spec/30_encoding.md R57). -/

namespace Sys2Proof.Machine

def exec (i : Instr) (s : State) : Host.Outcome State Fault Refusal :=
  match i with
  | .calref => Sys2Proof.Machine.execCalref s
  | .resid => Sys2Proof.Machine.execResid s
  | .wtick => Sys2Proof.Machine.execWtick s
  | .halt => Sys2Proof.Machine.execHalt s
  | .samp0 => Sys2Proof.Machine.execSamp0 s
  | .samp1 => Sys2Proof.Machine.execSamp1 s
  | .samp2 => Sys2Proof.Machine.execSamp2 s
  | .reserved7 => Sys2Proof.Machine.execReserved7 s
  | .conv0 => Sys2Proof.Machine.execConv0 s
  | .conv1 => Sys2Proof.Machine.execConv1 s
  | .conv2 => Sys2Proof.Machine.execConv2 s
  | .reservedB => Sys2Proof.Machine.execReservedB s
  | .enc => Sys2Proof.Machine.execEnc s
  | .txreq => Sys2Proof.Machine.execTxreq s
  | .txwait => Sys2Proof.Machine.execTxwait s
  | .reservedF => Sys2Proof.Machine.execReservedF s

end Sys2Proof.Machine
end

