-- ==== Sys2Proof/Machine/Instants.lean ====
section
/-! DEFINITION. One instant of a run: CORE's move, an act of the outside, and TIMER beside it
(spec/00_scope.md R10, R11, spec/45_scheduler.md R118). -/

namespace Sys2Proof.Machine

/-- CORE performs the operation `SEQ` selects (10_state.md R21). -/
def coreMove (s : State) : Result := exec (decode s.seq) s

/-- ADC presents `v`. CORE takes it in the same step if it is waiting for an analog answer (20_memory.md R41); otherwise, or if the
port cannot express the value, the response has no effect (20_memory.md R53, R54). -/
def adcAnswers (v : Nat) (s : State) : Result :=
  if asksAdc (decode s.seq) && decide (v ≤ s.cfg.maxCode) then coreMove { s with adcAns := some v } else .next s

/-- STRAP presents `b`. CORE takes it in the same step if it is waiting for the strap (20_memory.md R42); otherwise the response
has no effect (20_memory.md R54). -/
def strapAnswers (b : Bool) (s : State) : Result :=
  if asksStrap (decode s.seq) then coreMove { s with strapAns := some b } else .next s

/-- A response to a request of process lifetime `life`: one made before the last reset is forgotten, so its late response is a response
without a request and is ignored (70_reset_and_hazards.md R145, 20_memory.md R54; log 19). -/
def respond (life : Nat) (k : State → Result) (s : State) : Result :=
  if life = s.lifetime then k s else .next s

/-- One act (00_scope.md R10). -/
def runAct (a : Act) (s : State) : Result :=
  match a with
  | .core => coreMove s
  | .adcAnswer life v => respond life (adcAnswers v) s
  | .strapAnswer life b => respond life (strapAnswers b) s
  | .busDone life => respond life (fun t => .next (busComplete t)) s
  | .idle => .next s

/-- A timebase event at the same instant as what went before it. TIMER comes second, so a tick at the instant of `WTICK`'s clear
stays pending: set wins (45_scheduler.md R118). -/
def thenTimebase (timebase : Bool) (r : Result) : Result :=
  match r with
  | .next t => .next (if timebase then timebaseEvent t else t)
  | .fault f => .fault f
  | .refused q => .refused q

/-- One instant. While the reset input is asserted the core performs no operation and TIMER does not count
(70_reset_and_hazards.md R142). -/
def runInstant (x : Instant) (s : State) : Result :=
  match x with
  | .reset asserted => .next (resetInput asserted s)
  | .run a timebase => if s.resetIn then .next s else thenTimebase timebase (runAct a s)

/-- The instant that comes next and what is left after it. With nothing listed CORE makes its move (log 1). -/
def nextInstant (s : State) : Instant × State :=
  match s.env with
  | [] => (.run .core false, s)
  | x :: rest => (x, { s with env := rest })

end Sys2Proof.Machine
end

