-- ==== Sys2Proof/WellFormed.lean ====
section
/-! DEFINITION. The checks: a well-formed configuration (spec/00_scope.md R7) and a `SEQ` code that names an
operation (spec/30_encoding.md R58). -/

namespace Sys2Proof

/-- 00_scope.md R7: a model refuses any configuration that fails one of (a) to (f). The two identities are not checked here:
one above 0x7FF is a fault at run time (43_identity.md R94). -/
def Config.wf (c : Config) : Bool :=
  decide (1 ≤ c.adcBits)                                        -- (a)
  && decide (1 ≤ c.refMv)                                       -- (b)
  && decide (c.maxCode * c.refMv < 2 ^ c.wInt)                  -- (c)
  && decide (1 ≤ c.plausMin ∧ c.plausMin ≤ c.plausMax ∧ c.plausMax ≤ c.maxCode)  -- (d)
  && decide (c.maxCode * c.refMv < 2 ^ 16 * c.plausMin)         -- (e)
  && decide (1 ≤ c.periodCount)                                 -- (f)

/-- Whether a code names an operation. The three reserved codes do not: the next-state function never produces them
(30_encoding.md R58), and one found in `SEQ` faults (60_exceptions.md R126). -/
def Instr.isOperation : Instr → Bool
  | .reserved7 => false
  | .reservedB => false
  | .reservedF => false
  | .calref => true
  | .resid => true
  | .wtick => true
  | .halt => true
  | .samp0 => true
  | .samp1 => true
  | .samp2 => true
  | .conv0 => true
  | .conv1 => true
  | .conv2 => true
  | .enc => true
  | .txreq => true
  | .txwait => true

end Sys2Proof
end

