-- ==== Sys2Proof/Machine/Step.lean ====
section
/-! DEFINITION. One step of the machine. -/

namespace Sys2Proof.Machine

/-- One step: the next instant, in a configuration that is well formed; the model refuses any other (spec/00_scope.md R7). -/
def step (s : State) : Host.Outcome State Fault Refusal :=
  if s.cfg.wf then runInstant (nextInstant s).1 (nextInstant s).2 else .refused .configNotWellFormed

/-- The state in which the very next step performs the operation whose code is `w` (log 13): `SEQ` holds the code, the next
instant is CORE's, and the reset input is released. -/
def State.withFetchWord (s : State) (nbits w : Nat) : State :=
  { s with seq := BitVec.ofNat 4 (w % 2 ^ nbits), resetIn := false, env := .run .core false :: s.env }

end Sys2Proof.Machine
end

