-- ==== Sys2Proof/Safety.lean ====
section
/-! DEFINITION. What counts as a safe run, in the terms the claims use: the faulted outcome, the two scheduler states, the
requests outstanding, the invariant of every reachable state, and the telemetry node as an observer of the event history. -/

namespace Sys2Proof.Machine

/-! ## Outcomes and views of a state -/

/-- "A model must treat every state with `STATUS.FAULT = 1` as a faulted outcome: never final, never recovered"
(spec/60_exceptions.md R129; log 15). -/
def State.faulted (s : State) : Bool := s.faultFlag

/-- `Idle`: exactly `SEQ = WTICK` (spec/10_state.md R22). -/
def State.idle (s : State) : Bool := decide (s.seq = 0x2)

/-- `Active`: exactly the nine codes of the cycle group (spec/10_state.md R22). -/
def State.active (s : State) : Bool := decide (s.seq ∈ [0x4, 0x5, 0x6, 0x8, 0x9, 0xA, 0xC, 0xD, 0xE])

/-- `SAMP c` (spec/30_encoding.md R57). -/
def sampOf : Channel → Instr
  | .ch0 => .samp0
  | .ch1 => .samp1
  | .ch2 => .samp2

/-- `CONV c` (spec/30_encoding.md R57). -/
def convOf : Channel → Instr
  | .ch0 => .conv0
  | .ch1 => .conv1
  | .ch2 => .conv2

/-- Fault entry with cause `k` leads from `s` to `t` (spec/60_exceptions.md R128): `FAULT` is 1, `CAUSE` is `k` or, if `FAULT` was
already 1, what it was, `SEQ` is 0x3, the event is appended, and nothing else has changed. -/
structure FaultEntered (k : CauseCode) (s t : State) : Prop where
  /-- control goes to `HALT` -/
  seq : t.seq = 0x3
  /-- the fault is recorded -/
  flag : t.faultFlag = true
  /-- with its cause -/
  cause : t.cause = if s.faultFlag = true then s.cause else k
  /-- the event is appended -/
  history : t.history = s.history ++ [.fault k]
  /-- the other flags and the reserved bit stay -/
  flags : t.calValid = s.calValid ∧ t.idValid = s.idValid ∧ t.tickPend = s.tickPend ∧
    t.status.getLsbD 7 = s.status.getLsbD 7
  /-- every other piece of state stays -/
  rest : t = { s with seq := t.seq, status := t.status, history := t.history }

/-- The three ports of the core (spec/60_exceptions.md R139). -/
inductive Port where
  | asel (sel : TwoBits)
  | strap
  | bustx
deriving DecidableEq, Repr

/-- The port requests outstanding: an operation that waits for an answer has asked for it, and a transmit is outstanding while
`TX_BUSY` (spec/20_memory.md R40, R48). While reset is asserted the core makes none (spec/70_reset_and_hazards.md R142). -/
def State.requests (s : State) : List Port :=
  if s.resetIn then [] else
  (match decode s.seq with
    | .calref => [.asel 3]
    | .samp0 => [.asel 0]
    | .samp1 => [.asel 1]
    | .samp2 => [.asel 2]
    | .resid => [.strap]
    | _ => [])
  ++ (if s.txBusy then [.bustx] else [])

/-- Everything in a history but its `Tick` events. -/
def portEvents (h : List Event) : List Event := h.filter (fun e => decide (e ≠ .tick))

/-- Nothing the outside does next touches the reset input. -/
def NoReset (x : Instant) : Prop := ∀ a, x ≠ .reset a

/-- Nothing the outside does next is a bus completion. -/
def NoBusDone (x : Instant) : Prop := ∀ life tb, x ≠ .run (.busDone life) tb

/-- How many cycles a history has started: its `AdcRead(0)` events (spec/20_memory.md R47). -/
def cyclesStarted (h : List Event) : Nat :=
  h.countP (fun e => match e with | .adcRead sel _ => decide (sel = 0) | _ => false)

/-- How many ticks a history holds. -/
def ticksSeen (h : List Event) : Nat := h.countP (fun e => decide (e = .tick))

/-- The payload of three readings as one value (spec/30_encoding.md R63). -/
def payloadOf (a b c : Millivolts) : Payload := (0x0000#16 ++ c ++ b) ++ a

/-- The three readings of three samples under one calibration (spec/42_converter.md R83), packed. -/
def sampledPayload (cfg : Config) (d v0 v1 v2 : Nat) : Payload :=
  payloadOf (BitVec.ofNat 16 (toMv v0 cfg.refMv d)) (BitVec.ofNat 16 (toMv v1 cfg.refMv d))
    (BitVec.ofNat 16 (toMv v2 cfg.refMv d))

/-! ## No unwritten register is read -/

/-- Every register and frame byte the operation reads holds a value (spec/10_state.md R32; the reads are those of R34). -/
def ReadsOnlyWritten (i : Instr) (s : State) : Prop :=
  match i with
  | .conv0 => s.held.raw.ch0 = true ∧ s.held.calRaw = true
  | .conv1 => s.held.raw.ch1 = true ∧ s.held.calRaw = true
  | .conv2 => s.held.raw.ch2 = true ∧ s.held.calRaw = true
  | .enc => s.held.mv = PerChannel.all true ∧ s.held.devId = true
  | .txreq => s.held.txid = true ∧ ∀ a < payloadLen, (s.txbuf.read a).isSome = true
  | .calref => True
  | .resid => True
  | .wtick => True
  | .halt => True
  | .samp0 => True
  | .samp1 => True
  | .samp2 => True
  | .reserved7 => True
  | .reservedB => True
  | .reservedF => True
  | .txwait => True

/-! ## The invariant -/

/-- After a startup that did not fault: calibrated, identified, no fault (spec/45_scheduler.md R109, spec/10_state.md R24, R25). -/
def State.running (s : State) : Prop := s.calValid = true ∧ s.idValid = true ∧ s.faultFlag = false

/-- What holds at each operation: how far startup has come, that nothing is outstanding on the bus but in `TXWAIT`, and which
registers of the cycle have been written (spec/10_state.md R24, R25, R27, R32, spec/44_frame_encoder.md R102). -/
def State.stage (s : State) : Prop :=
  match decode s.seq with
  | .calref => s.calValid = false ∧ s.idValid = false ∧ s.faultFlag = false ∧ s.txBusy = false
  | .resid => s.calValid = true ∧ s.idValid = false ∧ s.faultFlag = false ∧ s.txBusy = false
  | .halt => s.faultFlag = true ∧ (s.cause = 1 ∨ s.cause = 2 ∨ s.cause = 3) ∧ s.idValid = false ∧ s.txBusy = false
  | .wtick => s.running ∧ s.txBusy = false
  | .samp0 => s.running ∧ s.txBusy = false
  | .samp1 => s.running ∧ s.txBusy = false ∧ s.held.raw.ch0 = true
  | .samp2 => s.running ∧ s.txBusy = false ∧ s.held.raw.ch0 = true ∧ s.held.raw.ch1 = true
  | .conv0 => s.running ∧ s.txBusy = false ∧ s.held.raw = PerChannel.all true
  | .conv1 => s.running ∧ s.txBusy = false ∧ s.held.raw = PerChannel.all true ∧ s.held.mv.ch0 = true
  | .conv2 =>
    s.running ∧ s.txBusy = false ∧ s.held.raw = PerChannel.all true ∧ s.held.mv.ch0 = true ∧ s.held.mv.ch1 = true
  | .enc => s.running ∧ s.txBusy = false ∧ s.held.mv = PerChannel.all true
  | .txreq =>
    s.running ∧ s.txBusy = false ∧ s.held.txid = true ∧ ∀ a < payloadLen, (s.txbuf.read a).isSome = true
  | .txwait => s.running
  | .reserved7 => False
  | .reservedB => False
  | .reservedF => False

/-- What every reachable state satisfies. -/
structure State.Inv (s : State) : Prop where
  /-- the configuration is well formed (spec/00_scope.md R7) -/
  cfg_wf : s.cfg.wf = true
  /-- the frame buffer keeps its canonical form -/
  txbuf_wf : s.txbuf.wf
  /-- reserved bit 7 of `STATUS` is 0 (spec/10_state.md R23) -/
  reserved_zero : s.status.getLsbD 7 = false
  /-- `CAUSE` is 0 when `FAULT` is 0 (spec/10_state.md R23) -/
  cause_zero : s.faultFlag = false → s.cause = 0
  /-- `PTMR` is at most `PERIOD_COUNT - 1` (spec/10_state.md R28) -/
  ptmr_range : s.ptmr < s.cfg.periodCount
  /-- each `RAW[c]` is a raw code (spec/10_state.md R14) -/
  raw_range : ∀ c, s.raw.get c ≤ s.cfg.maxCode
  /-- `CAL_RAW` is a raw code (spec/10_state.md R16) -/
  cal_range : s.calRaw ≤ s.cfg.maxCode
  /-- a calibrated core holds a plausible reference code (spec/10_state.md R16) -/
  cal_plausible : s.calValid = true → plausible s.cfg s.calRaw = true ∧ s.held.calRaw = true
  /-- an identified core holds one of the two configured identities (spec/10_state.md R18) -/
  id_legal : s.idValid = true →
    (s.devId.toNat = s.cfg.idStrapHigh ∨ s.devId.toNat = s.cfg.idStrapLow) ∧ s.held.devId = true
  /-- no answer is latched on a port line (spec/60_exceptions.md R131) -/
  lines_clear : s.adcAns = none ∧ s.strapAns = none
  /-- what holds at the operation `SEQ` selects -/
  at_stage : s.stage

/-- Every started cycle has a tick of its own: ticks that merged or are still pending come on top (spec/20_memory.md R47). -/
def State.TickBudget (s : State) : Prop :=
  cyclesStarted s.history + (if s.tickPend then 1 else 0) + (if s.seq = 0x4 then 1 else 0) ≤ ticksSeen s.history

/-! ## The telemetry node as an observer of the event history -/

/-- How far a run has come, as far as its port events tell (spec/20_memory.md R47), with the values the events carried. -/
inductive Phase where
  /-- nothing has happened since reset release -/
  | startup
  /-- the reference read as the plausible code `d` -/
  | calibrated (d : Nat)
  /-- no cycle is in progress; the node sends as `id` -/
  | waiting (d : Nat) (id : Identity)
  /-- channel 0 has been read -/
  | sampled0 (d : Nat) (id : Identity) (v0 : Nat)
  /-- channels 0 and 1 have been read -/
  | sampled1 (d : Nat) (id : Identity) (v0 v1 : Nat)
  /-- all three channels have been read -/
  | sampled2 (d : Nat) (id : Identity) (v0 v1 v2 : Nat)
  /-- the frame is with the bus -/
  | sent (d : Nat) (id : Identity)
  /-- a startup value was fatal; the fault event with this cause must follow -/
  | faulting (cause : CauseCode)
  /-- the fault has been recorded; no port event may follow -/
  | halted
deriving DecidableEq, Repr

/-- What one event does to the phase, `none` where the node may not produce it: the regular expression of spec/20_memory.md R47
with the startup faults of spec/60_exceptions.md R122 and, at each `BusTransmit`, the frame the cycle's own samples give
(spec/10_state.md R31, spec/44_frame_encoder.md R98). -/
def Phase.after (cfg : Config) (p : Phase) (e : Event) : Option Phase :=
  match p, e with
  | p, .tick => some p
  | .startup, .adcRead sel v =>
    if sel ≠ 3 then none
    else if v = 0 then some (.faulting 1)
    else if cfg.plausMin ≤ v ∧ v ≤ cfg.plausMax then some (.calibrated v)
    else some (.faulting 2)
  | .calibrated d, .strapRead b =>
    let k := if b then cfg.idStrapHigh else cfg.idStrapLow
    if k ≤ 0x7FF then some (.waiting d (BitVec.ofNat 11 k)) else some (.faulting 3)
  | .waiting d id, .adcRead sel v => if sel = 0 then some (.sampled0 d id v) else none
  | .sampled0 d id v0, .adcRead sel v => if sel = 1 then some (.sampled1 d id v0 v) else none
  | .sampled1 d id v0 v1, .adcRead sel v => if sel = 2 then some (.sampled2 d id v0 v1 v) else none
  | .sampled2 d id v0 v1 v2, .busTransmit id' q =>
    if id' = id ∧ q = sampledPayload cfg d v0 v1 v2 then some (.sent d id) else none
  | .sent d id, .busDone => some (.waiting d id)
  | .faulting c, .fault c' => if c' = c then some .halted else none
  | _, _ => none

/-- The phase a whole history leads to, `none` if the node may not produce it. -/
def observe (cfg : Config) (h : List Event) : Option Phase :=
  h.foldl (fun p e => p.bind (fun q => q.after cfg e)) (some .startup)

/-- The phase a state stands for. -/
def State.phase (s : State) : Phase :=
  match decode s.seq with
  | .calref => .startup
  | .resid => .calibrated s.calRaw
  | .wtick => .waiting s.calRaw s.devId
  | .samp0 => .waiting s.calRaw s.devId
  | .samp1 => .sampled0 s.calRaw s.devId s.raw.ch0
  | .samp2 => .sampled1 s.calRaw s.devId s.raw.ch0 s.raw.ch1
  | .conv0 => .sampled2 s.calRaw s.devId s.raw.ch0 s.raw.ch1 s.raw.ch2
  | .conv1 => .sampled2 s.calRaw s.devId s.raw.ch0 s.raw.ch1 s.raw.ch2
  | .conv2 => .sampled2 s.calRaw s.devId s.raw.ch0 s.raw.ch1 s.raw.ch2
  | .enc => .sampled2 s.calRaw s.devId s.raw.ch0 s.raw.ch1 s.raw.ch2
  | .txreq => .sampled2 s.calRaw s.devId s.raw.ch0 s.raw.ch1 s.raw.ch2
  | .txwait => if s.txBusy then .sent s.calRaw s.devId else .waiting s.calRaw s.devId
  | .halt => .halted
  | .reserved7 => .halted
  | .reservedB => .halted
  | .reservedF => .halted

/-- The reading of channel `c` as its rule gives it (spec/42_converter.md R82). -/
def State.converted (s : State) (c : Channel) : Prop :=
  s.mv.get c = BitVec.ofNat 16 (toMv (s.raw.get c) s.cfg.refMv s.calRaw)

/-- The readings and the frame agree with this cycle's samples as far as the cycle has come. -/
def State.cycleData (s : State) : Prop :=
  match decode s.seq with
  | .conv1 => s.converted .ch0
  | .conv2 => s.converted .ch0 ∧ s.converted .ch1
  | .enc => s.converted .ch0 ∧ s.converted .ch1 ∧ s.converted .ch2
  | .txreq =>
    s.txid = s.devId ∧
      memRead 0 .eight s.txbuf = .ok (sampledPayload s.cfg s.calRaw s.raw.ch0 s.raw.ch1 s.raw.ch2)
  | .calref => True
  | .resid => True
  | .wtick => True
  | .halt => True
  | .samp0 => True
  | .samp1 => True
  | .samp2 => True
  | .conv0 => True
  | .txwait => True
  | .reserved7 => True
  | .reservedB => True
  | .reservedF => True

/-- The event history is one the telemetry node may produce, and the state stands where the history leads. -/
structure State.Observed (s : State) : Prop where
  /-- the state is one the invariant allows -/
  inv : s.Inv
  /-- the history leads to the state's phase -/
  history_phase : observe s.cfg s.history = some s.phase
  /-- the cycle's own data so far -/
  data : s.cycleData

end Sys2Proof.Machine
end

