-- ==== Sys2Proof/Certificates/Slice0/Obligations.lean ====
section
/-! DEFINITION. The statements for the provers, in the order of OBLIGATIONS.json. Each says what the core does in its own terms:
codes and `STATUS` bits are written out, and a next state is given whole, so that what it does not name is unchanged. -/

open Sys2Proof Sys2Proof.Machine

/-! ## The operations, one by one -/

/-- 40_calibration.md R71, all of it: the hold, the two faults (zero first, window inclusive), and the latch. A next state written as an
update of the old one says also that nothing else changes. -/
def Obligations.CalrefOutcomes : Prop :=
  encode .calref = 0x0#4 ∧ State.reset.seq = 0x0#4 ∧
  ∀ s : State,
    (s.adcAns = none → exec .calref s = .next s) ∧
    (∀ v, s.adcAns = some v → v ≤ s.cfg.maxCode →
      (v = 0 → ∃ t, exec .calref s = .next t ∧
        FaultEntered 1 { s with adcAns := none, history := s.history ++ [.adcRead 3 v] } t) ∧
      (v ≠ 0 → (v < s.cfg.plausMin ∨ s.cfg.plausMax < v) → ∃ t, exec .calref s = .next t ∧
        FaultEntered 2 { s with adcAns := none, history := s.history ++ [.adcRead 3 v] } t) ∧
      (v ≠ 0 → s.cfg.plausMin ≤ v → v ≤ s.cfg.plausMax →
        exec .calref s = .next { s with
          adcAns := none, history := s.history ++ [.adcRead 3 v], calRaw := v,
          held := { s.held with calRaw := true }, status := s.status ||| 0x01#8, seq := 0x1#4 }))

/-- 43_identity.md R92's operation: the hold, the latch of the constant the strap selects, and the fault when it does not fit 11
bits. The constant not selected is not looked at. -/
def Obligations.ResidOutcomes : Prop :=
  encode .resid = 0x1#4 ∧
  ∀ s : State,
    (s.strapAns = none → exec .resid s = .next s) ∧
    (∀ b k, s.strapAns = some b → k = (if b = true then s.cfg.idStrapHigh else s.cfg.idStrapLow) →
      (0x7FF < k → ∃ t, exec .resid s = .next t ∧
        FaultEntered 3 { s with strapAns := none, history := s.history ++ [.strapRead b] } t) ∧
      (k ≤ 0x7FF → exec .resid s = .next { s with
          strapAns := none, history := s.history ++ [.strapRead b], devId := BitVec.ofNat 11 k,
          held := { s.held with devId := true }, status := s.status ||| 0x02#8, seq := 0x2#4 }))

/-- 45_scheduler.md R107: with no tick pending it holds, else the tick is consumed and the cycle starts. -/
def Obligations.WtickOutcomes : Prop :=
  encode .wtick = 0x2#4 ∧
  ∀ s : State,
    (s.tickPend = false → exec .wtick s = .next s) ∧
    (s.tickPend = true → exec .wtick s = .next { s with status := s.status &&& 0xFB#8, seq := 0x4#4 })

/-- 45_scheduler.md R108's operation: it holds in every state and changes nothing. -/
def Obligations.HaltHolds : Prop :=
  encode .halt = 0x3#4 ∧ ∀ s : State, exec .halt s = .next s

/-- 41_sampler.md R77: each `SAMP c` holds until answered, then stores any code unchanged and goes to its successor. -/
def Obligations.SampOutcomes : Prop :=
  encode .samp0 = 0x4#4 ∧ encode .samp1 = 0x5#4 ∧ encode .samp2 = 0x6#4 ∧
  ∀ s : State,
    (s.adcAns = none → exec .samp0 s = .next s ∧ exec .samp1 s = .next s ∧ exec .samp2 s = .next s) ∧
    (∀ v, s.adcAns = some v → v ≤ s.cfg.maxCode →
      exec .samp0 s = .next { s with
        adcAns := none, history := s.history ++ [.adcRead 0 v], raw := { s.raw with ch0 := v },
        held := { s.held with raw := { s.held.raw with ch0 := true } }, seq := 0x5#4 } ∧
      exec .samp1 s = .next { s with
        adcAns := none, history := s.history ++ [.adcRead 1 v], raw := { s.raw with ch1 := v },
        held := { s.held with raw := { s.held.raw with ch1 := true } }, seq := 0x6#4 } ∧
      exec .samp2 s = .next { s with
        adcAns := none, history := s.history ++ [.adcRead 2 v], raw := { s.raw with ch2 := v },
        held := { s.held with raw := { s.held.raw with ch2 := true } }, seq := 0x8#4 })

/-- 42_converter.md R82: on the domain the rule gives it (divisor not 0, quotient within 16 bits) each `CONV c` writes the truncated
quotient of the exact product and goes to its successor. -/
def Obligations.ConvOutcomes : Prop :=
  encode .conv0 = 0x8#4 ∧ encode .conv1 = 0x9#4 ∧ encode .conv2 = 0xA#4 ∧
  ∀ s : State, s.calRaw ≠ 0 →
    (s.raw.ch0 * s.cfg.refMv / s.calRaw < 2 ^ 16 → exec .conv0 s = .next { s with
      mv := { s.mv with ch0 := BitVec.ofNat 16 (s.raw.ch0 * s.cfg.refMv / s.calRaw) },
      held := { s.held with mv := { s.held.mv with ch0 := true } }, seq := 0x9#4 }) ∧
    (s.raw.ch1 * s.cfg.refMv / s.calRaw < 2 ^ 16 → exec .conv1 s = .next { s with
      mv := { s.mv with ch1 := BitVec.ofNat 16 (s.raw.ch1 * s.cfg.refMv / s.calRaw) },
      held := { s.held with mv := { s.held.mv with ch1 := true } }, seq := 0xA#4 }) ∧
    (s.raw.ch2 * s.cfg.refMv / s.calRaw < 2 ^ 16 → exec .conv2 s = .next { s with
      mv := { s.mv with ch2 := BitVec.ofNat 16 (s.raw.ch2 * s.cfg.refMv / s.calRaw) },
      held := { s.held with mv := { s.held.mv with ch2 := true } }, seq := 0xC#4 })

/-- The model's choice (log 6): with a zero divisor each `CONV c` completes; one reading is the free value and everything else is as
42_converter.md R82 says. -/
def Obligations.ConvZeroDivisorCompletes : Prop :=
  ∀ s : State, s.calRaw = 0 →
    exec .conv0 s = .next { s with
      mv := { s.mv with ch0 := Config.zeroDivisorResult (s.raw.ch0 * s.cfg.refMv) },
      held := { s.held with mv := { s.held.mv with ch0 := true } }, seq := 0x9#4 } ∧
    exec .conv1 s = .next { s with
      mv := { s.mv with ch1 := Config.zeroDivisorResult (s.raw.ch1 * s.cfg.refMv) },
      held := { s.held with mv := { s.held.mv with ch1 := true } }, seq := 0xA#4 } ∧
    exec .conv2 s = .next { s with
      mv := { s.mv with ch2 := Config.zeroDivisorResult (s.raw.ch2 * s.cfg.refMv) },
      held := { s.held with mv := { s.held.mv with ch2 := true } }, seq := 0xC#4 }

/-- 42_converter.md R91 (log 7): a quotient of `2^16` or more is a model fault, in each channel. -/
def Obligations.ConvTooWideStops : Prop :=
  ∀ s : State, s.calRaw ≠ 0 →
    (2 ^ 16 ≤ s.raw.ch0 * s.cfg.refMv / s.calRaw → exec .conv0 s = .fault .quotientTooWide) ∧
    (2 ^ 16 ≤ s.raw.ch1 * s.cfg.refMv / s.calRaw → exec .conv1 s = .fault .quotientTooWide) ∧
    (2 ^ 16 ≤ s.raw.ch2 * s.cfg.refMv / s.calRaw → exec .conv2 s = .fault .quotientTooWide)

/-- 44_frame_encoder.md R97 with the byte table of 30_encoding.md R60: `ENC` completes in every state with a canonical buffer, writes
the identity and all eight bytes, no byte outside them, and nothing else. -/
def Obligations.EncWritesTheFrame : Prop :=
  encode .enc = 0xC#4 ∧
  ∀ s : State, s.txbuf.wf → ∃ m, exec .enc s = .next { s with
      txid := s.devId, held := { s.held with txid := true }, txbuf := m, seq := 0xD#4 } ∧
    m.read 0 = some (s.mv.ch0.extractLsb' 0 8) ∧ m.read 1 = some (s.mv.ch0.extractLsb' 8 8) ∧
    m.read 2 = some (s.mv.ch1.extractLsb' 0 8) ∧ m.read 3 = some (s.mv.ch1.extractLsb' 8 8) ∧
    m.read 4 = some (s.mv.ch2.extractLsb' 0 8) ∧ m.read 5 = some (s.mv.ch2.extractLsb' 8 8) ∧
    m.read 6 = some 0x00#8 ∧ m.read 7 = some 0x00#8 ∧
    ∀ a, 8 ≤ a → m.read a = s.txbuf.read a

/-- 44_frame_encoder.md R99 and R100, and the 64-bit view of 20_memory.md R37: the payload decodes to the readings in order, and
bytes 6 and 7 are zero, whatever the readings and the identity. -/
def Obligations.EncRoundTrip : Prop :=
  ∀ s t : State, s.txbuf.wf → exec .enc s = .next t →
    memRead 0 .two t.txbuf = .ok (s.mv.ch0.setWidth 64) ∧
    memRead 2 .two t.txbuf = .ok (s.mv.ch1.setWidth 64) ∧
    memRead 4 .two t.txbuf = .ok (s.mv.ch2.setWidth 64) ∧
    t.txbuf.read 6 = some 0x00#8 ∧ t.txbuf.read 7 = some 0x00#8 ∧
    memRead 0 .eight t.txbuf = .ok (((0x0000#16 ++ s.mv.ch2) ++ s.mv.ch1) ++ s.mv.ch0)

/-- 44_frame_encoder.md R102's operation: with every byte of the frame written, the frame is handed over, `TX_BUSY` is set, and
nothing else changes; the payload's byte `k` is `TXBUF[k]`. -/
def Obligations.TxreqHandsTheFrameOver : Prop :=
  encode .txreq = 0xD#4 ∧
  ∀ s : State, (∀ a < 8, ∃ b, s.txbuf.read a = some b) → ∃ p : Payload,
    (∀ a < 8, s.txbuf.read a = some (p.extractLsb' (8 * a) 8)) ∧
    exec .txreq s = .next { s with
      txBusy := true, history := s.history ++ [.busTransmit s.txid p], seq := 0xE#4 }

/-- 10_state.md R32 for the frame buffer: a `TXREQ` over a byte that nothing has written is a model fault. -/
def Obligations.TxreqOnUnwrittenByteStops : Prop :=
  ∀ s : State, (∃ a < 8, s.txbuf.read a = none) → exec .txreq s = .fault .frameByteUnwritten

/-- 44_frame_encoder.md R103: it holds while `TX_BUSY` is 1, else the core goes to Idle. -/
def Obligations.TxwaitOutcomes : Prop :=
  encode .txwait = 0xE#4 ∧
  ∀ s : State,
    (s.txBusy = true → exec .txwait s = .next s) ∧
    (s.txBusy = false → exec .txwait s = .next { s with seq := 0x2#4 })

/-- 60_exceptions.md R126, 30_encoding.md R58: each reserved code found in `SEQ` takes the fault `SEQ_ILLEGAL`. -/
def Obligations.ReservedCodesFault : Prop :=
  decode 0x7#4 = .reserved7 ∧ decode 0xB#4 = .reservedB ∧ decode 0xF#4 = .reservedF ∧
  ∀ s : State,
    (∃ t, exec .reserved7 s = .next t ∧ FaultEntered 4 s t) ∧
    (∃ t, exec .reservedB s = .next t ∧ FaultEntered 4 s t) ∧
    (∃ t, exec .reservedF s = .next t ∧ FaultEntered 4 s t)

/-- 60_exceptions.md R128: what fault entry writes, for each of the four faults, and that it writes nothing else; and that a faulting
`CALREF` or `RESID` performs none of its own writes. -/
def Obligations.FaultEntryWrites : Prop :=
  ∀ s : State,
    (∃ t, raise .calZero s = .next t ∧ FaultEntered 1 s t) ∧
    (∃ t, raise .calImplausible s = .next t ∧ FaultEntered 2 s t) ∧
    (∃ t, raise .idInvalid s = .next t ∧ FaultEntered 3 s t) ∧
    (∃ t, raise .seqIllegal s = .next t ∧ FaultEntered 4 s t) ∧
    (∀ v, s.adcAns = some v → v ≤ s.cfg.maxCode → v = 0 ∨ v < s.cfg.plausMin ∨ s.cfg.plausMax < v →
      ∃ t, exec .calref s = .next t ∧ t.faultFlag = true ∧
        t.calRaw = s.calRaw ∧ t.held.calRaw = s.held.calRaw ∧ t.calValid = s.calValid) ∧
    (∀ b, s.strapAns = some b → 0x7FF < (if b = true then s.cfg.idStrapHigh else s.cfg.idStrapLow) →
      ∃ t, exec .resid s = .next t ∧ t.faultFlag = true ∧
        t.devId = s.devId ∧ t.held.devId = s.held.devId ∧ t.idValid = s.idValid)

/-! ## The frame buffer -/

/-- 20_memory.md R36: what a write stores at every offset, and that an access outside the buffer does not exist. -/
def Obligations.FrameWriteStoresLittleEndian : Prop :=
  ∀ (m : Memory) (a : Nat) (n : AccessWidth) (v : Payload), m.wf →
    (a + n.bytes ≤ 8 → ∃ m', memWrite a n v m = .ok m' ∧ m'.wf ∧
      (∀ k < n.bytes, m'.read (a + k) = some (v.extractLsb' (8 * k) 8)) ∧
      (∀ x, x < a ∨ a + n.bytes ≤ x → m'.read x = m.read x)) ∧
    (8 < a + n.bytes → memWrite a n v m = .error .frameAddressOutside)

/-- 20_memory.md R36: what a read gives back byte by byte, and that an access outside the buffer does not exist. -/
def Obligations.FrameReadIsLittleEndian : Prop :=
  ∀ (m : Memory) (a : Nat) (n : AccessWidth),
    (a + n.bytes ≤ 8 → ∀ v : Payload, memRead a n m = .ok v →
      (∀ k < n.bytes, m.read (a + k) = some (v.extractLsb' (8 * k) 8)) ∧
      (∀ k, n.bytes ≤ k → v.extractLsb' (8 * k) 8 = 0#8)) ∧
    (a + n.bytes ≤ 8 → (∀ k < n.bytes, (m.read (a + k)).isSome = true) → ∃ v, memRead a n m = .ok v) ∧
    (8 < a + n.bytes → memRead a n m = .error .frameAddressOutside)

/-! ## TIMER, BUS, the ports, reset -/

/-- 45_scheduler.md R115, R116: a timebase event counts down, and at 0 reloads and ticks; a tick sets `TICK_PEND`, is an event, and
writes nothing else. -/
def Obligations.TimebaseCountsAndTicks : Prop :=
  ∀ s : State,
    (s.ptmr = 0 → timebaseEvent s = { s with
      ptmr := s.cfg.periodCount - 1, status := s.status ||| 0x04#8, history := s.history ++ [.tick] }) ∧
    (s.ptmr ≠ 0 → timebaseEvent s = { s with ptmr := s.ptmr - 1 })

/-- 45_scheduler.md R116: the counter's step, and what it comes to: from a count the counter can hold, one tick in every `PERIOD_COUNT`
timebase events, from the reload value the first of them at the `PERIOD_COUNT`-th. -/
def Obligations.TickEveryPeriodCountEvents : Prop :=
  (∀ s : State, timebaseEvent s =
    if s.ptmr = 0 then timerTick { s with ptmr := s.cfg.periodCount - 1 } else { s with ptmr := s.ptmr - 1 }) ∧
  (∀ (n : Nat) (s : State), s.ptmr < s.cfg.periodCount →
    ticksSeen (timebaseEvent^[n] s).history =
      ticksSeen s.history + (n + (s.cfg.periodCount - 1 - s.ptmr)) / s.cfg.periodCount) ∧
  (∀ (n : Nat) (c : Config), 1 ≤ c.periodCount →
    ticksSeen (timebaseEvent^[n] (State.resetWith c)).history = n / c.periodCount)

/-- 45_scheduler.md R117: a tick while one is pending changes nothing but the event history. -/
def Obligations.TicksMerge : Prop :=
  ∀ s : State, s.tickPend = true → timerTick s = { s with history := s.history ++ [.tick] }

/-- 45_scheduler.md R118: if the tick and `WTICK`'s clear fall on one instant, the cycle starts and the new tick is pending. That
CORE's move is the first of the two is the model's reading (log 11). -/
def Obligations.SimultaneousSetWins : Prop :=
  ∀ (s : State) (rest : List Instant), s.cfg.wf = true → s.resetIn = false → s.seq = 0x2#4 → s.tickPend = true →
    s.ptmr = 0 → s.env = .run .core true :: rest →
    ∃ t, step s = .next t ∧ t.seq = 0x4#4 ∧ t.tickPend = true ∧ t.history = s.history ++ [.tick]

/-- 20_memory.md R43, R54: BUS's complete step clears `TX_BUSY` and is an event; with no request outstanding it has no effect. -/
def Obligations.BusCompletes : Prop :=
  ∀ s : State,
    (s.txBusy = true → busComplete s = { s with txBusy := false, history := s.history ++ [.busDone] }) ∧
    (s.txBusy = false → busComplete s = s)

/-- 20_memory.md R54: an answer nobody asked for changes no state of the core and is no event. -/
def Obligations.SpuriousResponsesIgnored : Prop :=
  ∀ (s : State) (rest : List Instant), s.cfg.wf = true → s.resetIn = false →
    (∀ life v, s.env = .run (.adcAnswer life v) false :: rest →
      (s.seq ≠ 0x0#4 ∧ s.seq ≠ 0x4#4 ∧ s.seq ≠ 0x5#4 ∧ s.seq ≠ 0x6#4) → step s = .next { s with env := rest }) ∧
    (∀ life b, s.env = .run (.strapAnswer life b) false :: rest → s.seq ≠ 0x1#4 → step s = .next { s with env := rest }) ∧
    (∀ life, s.env = .run (.busDone life) false :: rest → s.txBusy = false → step s = .next { s with env := rest })

/-- 10_state.md R33: the reset values the spec gives, in the state after reset. -/
def Obligations.ResetStateHasTheSpecsValues : Prop :=
  State.reset.seq = 0x0#4 ∧ State.reset.status = 0x00#8 ∧ State.reset.txBusy = false ∧
  State.reset.ptmr = State.reset.cfg.periodCount - 1 ∧ State.reset.held = Held.none ∧
  (∀ a, State.reset.txbuf.read a = none) ∧ State.reset.history = []

/-- 70_reset_and_hazards.md R143, R145: asserting reset, from any state, with a request outstanding or not, puts every piece of state
the spec gives a reset value at it, takes the value of the others away, forgets the request, empties the history and keeps the
configuration. The model's own: a register without a value is one whose mark is clear (log 4), the input acts at once (log 12), and a
process lifetime ends (log 19). -/
def Obligations.ResetRestoresEverything : Prop :=
  ∀ (s : State) (rest : List Instant), s.cfg.wf = true → s.env = .reset true :: rest →
    ∃ t, step s = .next t ∧ t.seq = 0x0#4 ∧ t.status = 0x00#8 ∧ t.txBusy = false ∧
      t.ptmr = s.cfg.periodCount - 1 ∧ t.held = Held.none ∧ (∀ a, t.txbuf.read a = none) ∧
      t.adcAns = none ∧ t.strapAns = none ∧ t.history = [] ∧ t.cfg = s.cfg ∧ t.resetIn = true ∧ t.requests = [] ∧
      t.lifetime = s.lifetime + 1 ∧ t.env = rest

/-- 70_reset_and_hazards.md R142: while reset is asserted the core performs no operation, makes no request, and TIMER does not
count, whatever the outside does but change the reset input (what is consumed meanwhile: log 12). -/
def Obligations.NothingRunsWhileInReset : Prop :=
  ∀ s : State, s.resetIn = true →
    s.requests = [] ∧
    (s.cfg.wf = true → (∀ x ∈ s.env.head?, NoReset x) → step s = .next { s with env := s.env.tail })

/-- A step performs the operation `SEQ` selects (10_state.md R21): with CORE next, alone or with a timebase event at the same
instant; with an answer the operation waits for; and with nothing listed. The model's own choices in it: that with nothing listed CORE
moves (log 1), that an answer and its taking are one step (log 10), that the timebase event of an instant comes second (log 11), and that
an answer names its process lifetime (log 19). -/
def Obligations.StepRunsTheSequencedOperation : Prop :=
  ∀ (s : State) (rest : List Instant), s.cfg.wf = true → s.resetIn = false →
    (s.env = [] → step s = exec (decode s.seq) s) ∧
    (s.env = .run .core false :: rest → step s = exec (decode s.seq) { s with env := rest }) ∧
    (s.env = .run .core true :: rest → ∀ t, exec (decode s.seq) { s with env := rest } = .next t →
      step s = .next (timebaseEvent t)) ∧
    (∀ v, s.env = .run (.adcAnswer s.lifetime v) false :: rest → v ≤ s.cfg.maxCode →
      (s.seq = 0x0#4 ∨ s.seq = 0x4#4 ∨ s.seq = 0x5#4 ∨ s.seq = 0x6#4) →
      step s = exec (decode s.seq) { s with env := rest, adcAns := some v }) ∧
    (∀ b, s.env = .run (.strapAnswer s.lifetime b) false :: rest → s.seq = 0x1#4 →
      step s = exec .resid { s with env := rest, strapAns := some b })

/-! ## Configuration and encoding -/

/-- 00_scope.md R7: what a well-formed configuration is, that in the reference configuration `PLAUS_MIN` may be 77 or more up to
`PLAUS_MAX`, that the two identities are free, and that the model refuses any other configuration. -/
def Obligations.IllFormedConfigRefused : Prop :=
  (∀ c : Config, c.wf = true ↔
    1 ≤ c.adcBits ∧ 1 ≤ c.refMv ∧ (2 ^ c.adcBits - 1) * c.refMv < 2 ^ c.wInt ∧
    (1 ≤ c.plausMin ∧ c.plausMin ≤ c.plausMax ∧ c.plausMax ≤ 2 ^ c.adcBits - 1) ∧
    (2 ^ c.adcBits - 1) * c.refMv < 2 ^ 16 * c.plausMin ∧ 1 ≤ c.periodCount) ∧
  (∀ p : Nat, Config.wf { Config.reference with plausMin := p } = true ↔ 77 ≤ p ∧ p ≤ 4095) ∧
  (∀ (c : Config) (h l : Nat), Config.wf { c with idStrapHigh := h, idStrapLow := l } = c.wf) ∧
  (∀ s : State, s.cfg.wf = false → step s = .refused .configNotWellFormed)

/-- 30_encoding.md R57: the code written out from the map decodes to its operation, one of each group and a reserved one; and the
model's choice (log 14) that a number above four bits is no code. -/
def Obligations.CodesDecodeAsMapped : Prop :=
  decode 0b0000#4 = .calref ∧ decode 0b0010#4 = .wtick ∧ decode 0b0101#4 = .samp1 ∧ decode 0b1010#4 = .conv2 ∧
  decode 0b1100#4 = .enc ∧ decode 0b1110#4 = .txwait ∧ decode 0b0111#4 = .reserved7 ∧
  (∀ w : Nat, 16 ≤ w → decodeNumber w = .error .widerThanFourBits)

/-- 30_encoding.md R59: encoding and decoding are inverse both ways, so the sixteen rows are disjoint and cover every 4-bit
value. -/
def Obligations.CodeMapIsABijection : Prop :=
  (∀ i : Instr, decode (encode i) = i) ∧ (∀ w : SeqCode, encode (decode w) = w) ∧
  (∀ i : Instr, decodeNumber (encode i).toNat = .ok i)

/-! ## What the operations share -/

/-- 45_scheduler.md section 2 (R109's table): the code `SEQ` holds after each operation, in every case of the table. -/
def Obligations.SuccessorTable : Prop :=
  ∀ s t : State, exec (decode s.seq) s = .next t → t.seq =
    match decode s.seq with
    | .calref =>
      match s.adcAns with
      | none => 0x0#4
      | some v =>
        if s.cfg.maxCode < v then 0x0#4
        else if v = 0 ∨ v < s.cfg.plausMin ∨ s.cfg.plausMax < v then 0x3#4 else 0x1#4
    | .resid =>
      match s.strapAns with
      | none => 0x1#4
      | some b => if 0x7FF < (if b = true then s.cfg.idStrapHigh else s.cfg.idStrapLow) then 0x3#4 else 0x2#4
    | .wtick => if s.tickPend = true then 0x4#4 else 0x2#4
    | .halt => 0x3#4
    | .samp0 => if ∃ v, s.adcAns = some v ∧ v ≤ s.cfg.maxCode then 0x5#4 else 0x4#4
    | .samp1 => if ∃ v, s.adcAns = some v ∧ v ≤ s.cfg.maxCode then 0x6#4 else 0x5#4
    | .samp2 => if ∃ v, s.adcAns = some v ∧ v ≤ s.cfg.maxCode then 0x8#4 else 0x6#4
    | .reserved7 => 0x3#4
    | .conv0 => 0x9#4
    | .conv1 => 0xA#4
    | .conv2 => 0xC#4
    | .reservedB => 0x3#4
    | .enc => 0xD#4
    | .txreq => 0xE#4
    | .txwait => if s.txBusy = true then 0xE#4 else 0x2#4
    | .reservedF => 0x3#4

/-- 10_state.md section 10 (the write side of R34's matrix): which operation may change each piece of state; the other agents' columns
are stated by TimebaseCountsAndTicks and BusCompletes. -/
def Obligations.OperationsWriteOnlyTheirOwn : Prop :=
  ∀ (i : Instr) (s t : State), exec i s = .next t →
    t.cfg = s.cfg ∧ t.ptmr = s.ptmr ∧ t.resetIn = s.resetIn ∧ t.lifetime = s.lifetime ∧ t.env = s.env ∧
    t.status.getLsbD 7 = s.status.getLsbD 7 ∧
    (∀ c, i ≠ sampOf c → t.raw.get c = s.raw.get c) ∧
    (∀ c, i ≠ convOf c → t.mv.get c = s.mv.get c) ∧
    (i ≠ .calref → t.calRaw = s.calRaw ∧ t.calValid = s.calValid) ∧
    (i ≠ .resid → t.devId = s.devId ∧ t.idValid = s.idValid) ∧
    (i ≠ .enc → t.txid = s.txid ∧ ∀ a, t.txbuf.read a = s.txbuf.read a) ∧
    (i ≠ .wtick → t.tickPend = s.tickPend) ∧
    (i ≠ .txreq → t.txBusy = s.txBusy) ∧
    (i ≠ .calref → i ≠ .resid → i.isOperation = true → t.faultFlag = s.faultFlag ∧ t.cause = s.cause) ∧
    (i = .halt → t = s)

/-- 10_state.md R22: Idle is `SEQ = 0x2`; Active is the nine codes of the cycle; during startup and after a fault the scheduler is in
neither. -/
def Obligations.IdleAndActiveAreFunctionsOfSeq : Prop :=
  ∀ s : State,
    (s.idle = true ↔ decode s.seq = .wtick) ∧
    (s.active = true ↔ decode s.seq = .samp0 ∨ decode s.seq = .samp1 ∨ decode s.seq = .samp2 ∨
      decode s.seq = .conv0 ∨ decode s.seq = .conv1 ∨ decode s.seq = .conv2 ∨
      decode s.seq = .enc ∨ decode s.seq = .txreq ∨ decode s.seq = .txwait) ∧
    (decode s.seq = .calref ∨ decode s.seq = .resid ∨ decode s.seq = .halt → s.idle = false ∧ s.active = false)

/-- 45_scheduler.md R110's transitions: Idle is left for Active only by `WTICK` consuming a tick, Active for Idle only by `TXWAIT`
completing, and neither state is left for anything else. -/
def Obligations.SchedulerTransitions : Prop :=
  ∀ s t : State, exec (decode s.seq) s = .next t →
    (s.idle = true → (t.idle = true ∧ t = s) ∨ (t.active = true ∧ s.tickPend = true ∧ t.tickPend = false ∧ t.seq = 0x4#4)) ∧
    (s.active = true → t.active = true ∨ (t.idle = true ∧ decode s.seq = .txwait ∧ s.txBusy = false))

/-! ## The converter's laws -/

/-- 42_converter.md R89, R90: the identities of `ToMv`. -/
def Obligations.ConversionIdentities : Prop :=
  (∀ m d, d ≠ 0 → toMv 0 m d = 0) ∧
  (∀ m d, d ≠ 0 → toMv d m d = m) ∧
  (∀ r m d, d ≠ 0 → (toMv r m d = 0 ↔ r * m < d)) ∧
  (∀ r m d, d ≠ 0 → toMv r m d ≤ r * m) ∧
  (∀ r m d e, d ≠ 0 → d ≤ e → toMv r m e ≤ toMv r m d) ∧
  (∀ k m d, d ≠ 0 → toMv (k * d) m d = k * m)

/-- 42_converter.md R88, for the function over the naturals and for the register: of two conversions under one calibration, the larger
code gives the reading that is not smaller, in states the invariant allows; and it is not strict. -/
def Obligations.ReadingsAreMonotonic : Prop :=
  (∀ r1 r2 m d : Nat, d ≠ 0 → r1 ≤ r2 → toMv r1 m d ≤ toMv r2 m d) ∧
  (∀ (c : Channel) (s s' : State), s.Inv → s'.Inv → s.cfg = s'.cfg → s.calRaw = s'.calRaw →
    s.calValid = true → s'.calValid = true → s.raw.get c ≤ s'.raw.get c →
    ∃ t t', exec (convOf c) s = .next t ∧ exec (convOf c) s' = .next t' ∧ (t.mv.get c).toNat ≤ (t'.mv.get c).toNat) ∧
  toMv 4094 1230 4017 = 1253 ∧ toMv 4095 1230 4017 = 1253

/-- 42_converter.md R86: in every state the invariant allows, once calibrated, each quotient is at most
`(MAX_CODE * REF_MV) div PLAUS_MIN` and so fits 16 bits, and the register holds exactly the quotient; in the reference configuration
none exceeds 65413, which is reached; and it is the plausibility window that does it, not a divisor other than 0. -/
def Obligations.NarrowingIsLossless : Prop :=
  (∀ (c : Channel) (s : State), s.Inv → s.calValid = true →
    toMv (s.raw.get c) s.cfg.refMv s.calRaw ≤ s.cfg.maxCode * s.cfg.refMv / s.cfg.plausMin ∧
    s.cfg.maxCode * s.cfg.refMv / s.cfg.plausMin ≤ 65535 ∧
    (∃ t, exec (convOf c) s = .next t ∧ (t.mv.get c).toNat = toMv (s.raw.get c) s.cfg.refMv s.calRaw) ∧
    (s.cfg = Config.reference → toMv (s.raw.get c) s.cfg.refMv s.calRaw ≤ 65413)) ∧
  toMv 4095 1230 77 = 65413 ∧ toMv 4050 1230 76 = 65546

/-! ## Invariants and whole runs -/

/-- The state after reset meets the invariant, the tick budget and the observer's condition. -/
def Obligations.ResetMeetsTheInvariants : Prop :=
  State.reset.Inv ∧ State.reset.TickBudget ∧ State.reset.Observed

/-- Every step of every agent keeps the invariant (10_state.md R16, R18, R23 to R28, R32; 45_scheduler.md R109). -/
def Obligations.StepKeepsTheInvariant : Prop :=
  ∀ s t : State, s.Inv → step s = .next t → t.Inv

/-- From a state the invariant allows no step ever stops, whatever the outside does: no model fault and no refusal can be reached
(10_state.md R32, 20_memory.md R38, 42_converter.md R86, R87). -/
def Obligations.InvariantStatesAlwaysStep : Prop :=
  ∀ s : State, s.Inv → ∃ t, step s = .next t ∧ t.Inv

/-- 10_state.md R32: no state the invariant allows performs a read of a register or frame byte that nothing has written. -/
def Obligations.NoUnwrittenRegisterIsRead : Prop :=
  ∀ s : State, s.Inv → ReadsOnlyWritten (decode s.seq) s

/-- The event history is at every step one the telemetry node may produce: the order of 20_memory.md R47, and at each `BusTransmit`
the frame of this cycle's own three samples under the latched calibration and identity (10_state.md R31). -/
def Obligations.HistoryIsTheTelemetryNodes : Prop :=
  ∀ s t : State, s.Observed → step s = .next t → t.Observed

/-- 20_memory.md R47: every cycle has consumed a tick no earlier one consumed, so no history has more `AdcRead(0)` events than ticks;
each step keeps the stronger count. -/
def Obligations.CyclesNeverExceedTicks : Prop :=
  (∀ s t : State, s.TickBudget → step s = .next t → t.TickBudget) ∧
  (∀ s : State, s.TickBudget → cyclesStarted s.history ≤ ticksSeen s.history)

/-- 10_state.md R30: after startup, no step but a reset changes the calibration, the identity or their two flags; the configuration no
step changes at all. -/
def Obligations.CalibrationAndIdentityAreImmutable : Prop :=
  ∀ s t : State, s.Inv → step s = .next t →
    t.cfg = s.cfg ∧
    ((∀ x ∈ s.env.head?, NoReset x) →
      (s.calValid = true → t.calValid = true ∧ t.calRaw = s.calRaw) ∧
      (s.idValid = true → t.idValid = true ∧ t.devId = s.devId))

/-- 70_reset_and_hazards.md R152: while a transmit is outstanding no step but a reset changes the frame. -/
def Obligations.FrameStableInFlight : Prop :=
  ∀ s t : State, s.Inv → s.txBusy = true → (∀ x ∈ s.env.head?, NoReset x) → step s = .next t →
    t.txid = s.txid ∧ ∀ a, t.txbuf.read a = s.txbuf.read a

/-- 20_memory.md R48: at most one port request is outstanding, over all three ports together. -/
def Obligations.OneRequestOutstanding : Prop :=
  ∀ s : State, s.Inv → s.requests.length ≤ 1

/-- 40_calibration.md R72, 43_identity.md R96: without a reset no step leads to `CALREF`, and none to `RESID` but from `CALREF`. -/
def Obligations.StartupIsOneShot : Prop :=
  ∀ s t : State, s.Inv → (∀ x ∈ s.env.head?, NoReset x) → step s = .next t →
    (t.seq = 0x0#4 → s.seq = 0x0#4) ∧ (t.seq = 0x1#4 → s.seq = 0x1#4 ∨ s.seq = 0x0#4)

/-- 60_exceptions.md R129, 45_scheduler.md R108: in a state the invariant allows with `FAULT` = 1 the core is in `HALT`, and without a
reset it stays there with its first cause through any number of steps, and only `Tick` events follow. -/
def Obligations.FaultIsForever : Prop :=
  ∀ (k : Nat) (s t : State), s.Inv → s.faulted = true → (∀ x ∈ s.env, NoReset x) →
    Host.Core.run Sys2Proof.core k s = .next t →
    t.seq = 0x3#4 ∧ t.faulted = true ∧ t.cause = s.cause ∧ portEvents t.history = portEvents s.history

/-- 44_frame_encoder.md R104 (a): a transmit that never completes holds the core in `TXWAIT` for ever; nothing is sampled, nothing
transmitted, and no fault is recorded. -/
def Obligations.DeadBusHoldsTheCore : Prop :=
  ∀ (k : Nat) (s t : State), s.seq = 0xE#4 → s.txBusy = true → (∀ x ∈ s.env, NoReset x ∧ NoBusDone x) →
    Host.Core.run Sys2Proof.core k s = .next t →
    t.seq = 0xE#4 ∧ t.txBusy = true ∧ t.faultFlag = s.faultFlag ∧ portEvents t.history = portEvents s.history

/-- 60_exceptions.md R132: no event of another agent changes `SEQ` by itself, or any register but the latch the rule names for it. -/
def Obligations.WakeEventsOnlyLatch : Prop :=
  ∀ s : State,
    timebaseEvent s = { s with
      ptmr := (timebaseEvent s).ptmr, status := (timebaseEvent s).status, history := (timebaseEvent s).history } ∧
    (timebaseEvent s).calValid = s.calValid ∧ (timebaseEvent s).idValid = s.idValid ∧
    (timebaseEvent s).faultFlag = s.faultFlag ∧ (timebaseEvent s).cause = s.cause ∧
    (s.tickPend = true → (timebaseEvent s).tickPend = true) ∧
    busComplete s = { s with txBusy := (busComplete s).txBusy, history := (busComplete s).history }

/-- One whole cycle, from the first sample to the hand-over, from any state at `SAMP 0` the invariant allows, whatever earlier cycles
left behind: the frame is a function of `CAL_RAW`, `REF_MV`, `DEV_ID` and this cycle's three answers only (10_state.md R31), and it
is the frame R83 and R98 give. The schedule is eight instants of the model's own list (log 1, log 10, log 19). -/
def Obligations.CycleTransmitsItsOwnSamples : Prop :=
  ∀ (s : State) (v0 v1 v2 : Nat) (rest : List Instant), s.Inv → s.resetIn = false → s.seq = 0x4#4 →
    v0 ≤ s.cfg.maxCode → v1 ≤ s.cfg.maxCode → v2 ≤ s.cfg.maxCode →
    s.env = [.run (.adcAnswer s.lifetime v0) false, .run (.adcAnswer s.lifetime v1) false,
      .run (.adcAnswer s.lifetime v2) false, .run .core false, .run .core false, .run .core false, .run .core false, .run .core false] ++ rest →
    ∃ t, Host.Core.run Sys2Proof.core 8 s = .next t ∧ t.seq = 0xE#4 ∧ t.txBusy = true ∧ t.env = rest ∧
      t.history = s.history ++ [.adcRead 0 v0, .adcRead 1 v1, .adcRead 2 v2,
        .busTransmit s.devId (sampledPayload s.cfg s.calRaw v0 v1 v2)]

/-- 10_state.md R23 and 60_exceptions.md R139: in a state the invariant allows the STATUS output is the register, with reserved bit 7
reading 0; the port reads bit 7 as 0 in any state. -/
def Obligations.StatusOutputReadsReservedAsZero : Prop :=
  (∀ s : State, s.statusOut.getLsbD 7 = false) ∧
  (∀ (s : State) (k : Nat), k < 7 → s.statusOut.getLsbD k = s.status.getLsbD k) ∧
  (∀ s : State, s.Inv → s.statusOut = s.status)

/-! ## Steps of the other agents -/

/-- The steps of the agents other than CORE, as steps of the machine: BUS's completion (20_memory.md R43), TIMER alone (45_scheduler.md
R115, R116), nothing at all, and TIMER at the instant of any other act, answers among them. The model's own choices in it: the list of
instants (log 1), the timebase event second (log 11), the lifetime a completion names (log 19). -/
def Obligations.StepPerformsTheOtherAgents : Prop :=
  ∀ (s : State) (rest : List Instant), s.cfg.wf = true → s.resetIn = false →
    (s.env = .run (.busDone s.lifetime) false :: rest → s.txBusy = true →
      step s = .next { s with env := rest, txBusy := false, history := s.history ++ [.busDone] }) ∧
    (s.env = .run .idle false :: rest → step s = .next { s with env := rest }) ∧
    (s.env = .run .idle true :: rest → s.ptmr = 0 → step s = .next { s with
      env := rest, ptmr := s.cfg.periodCount - 1, status := s.status ||| 0x04#8, history := s.history ++ [.tick] }) ∧
    (s.env = .run .idle true :: rest → s.ptmr ≠ 0 → step s = .next { s with env := rest, ptmr := s.ptmr - 1 }) ∧
    (∀ a, s.env = .run a true :: rest →
      (∀ t, step { s with env := .run a false :: rest } = .next t → step s = .next (timebaseEvent t)) ∧
      (∀ e, step { s with env := .run a false :: rest } = .fault e → step s = .fault e))

/-- 70_reset_and_hazards.md R144: releasing the reset input changes the input and nothing else, so a core that was reset, from any state,
halted or waiting for the bus too, performs `CALREF` next and takes its answer. The model's own: the instants (log 1, log 12) and the
lifetime the answer names (log 19). -/
def Obligations.ReleaseLetsTheCoreStart : Prop :=
  ∀ (s : State) (rest : List Instant), s.cfg.wf = true →
    (s.env = .reset false :: rest → step s = .next { s with env := rest, resetIn := false }) ∧
    (∀ v, s.env = .reset true :: .reset false :: .run (.adcAnswer (s.lifetime + 1) v) false :: rest →
      s.cfg.plausMin ≤ v → v ≤ s.cfg.plausMax →
      ∃ t, Host.Core.run Sys2Proof.core 3 s = .next t ∧ t.resetIn = false ∧ t.seq = 0x1#4 ∧ t.calRaw = v ∧ t.status = 0x01#8 ∧
        t.ptmr = s.cfg.periodCount - 1 ∧ t.history = [.adcRead 3 v] ∧ t.env = rest)

/-- 70_reset_and_hazards.md R145, over the lifetime a response names (log 19): a response to a request of another process lifetime changes
no state of the core and is no event, whatever waits on its port now; so an analog answer that comes after a reset and its release leaves
`CALREF` waiting, and a completion leaves a new transmit outstanding. -/
def Obligations.LateAnswersAreIgnored : Prop :=
  (∀ (s : State) (rest : List Instant) (life : Nat), s.cfg.wf = true → life ≠ s.lifetime →
    (∀ v, s.env = .run (.adcAnswer life v) false :: rest → step s = .next { s with env := rest }) ∧
    (∀ b, s.env = .run (.strapAnswer life b) false :: rest → step s = .next { s with env := rest }) ∧
    (s.env = .run (.busDone life) false :: rest → step s = .next { s with env := rest })) ∧
  (∀ (s : State) (rest : List Instant) (v : Nat), s.cfg.wf = true →
    s.env = .reset true :: .reset false :: .run (.adcAnswer s.lifetime v) false :: rest →
    ∃ t, Host.Core.run Sys2Proof.core 3 s = .next t ∧ t.seq = 0x0#4 ∧ t.status = 0x00#8 ∧ t.txBusy = false ∧
      t.requests = [.asel 3] ∧ t.history = [] ∧ t.env = rest)
end

