-- ==== Sys2Proof/Laws/Config.lean ====
section
/-! SUPPORT. The checks of a configuration as propositions, so that no proof unfolds them again (spec/00_scope.md R7). -/

namespace Sys2Proof

/-- A configuration is well formed exactly when (a) to (f) hold. -/
theorem Config.wf_iff (c : Config) : c.wf = true ↔
    1 ≤ c.adcBits ∧ 1 ≤ c.refMv ∧ c.maxCode * c.refMv < 2 ^ c.wInt ∧
    (1 ≤ c.plausMin ∧ c.plausMin ≤ c.plausMax ∧ c.plausMax ≤ c.maxCode) ∧
    c.maxCode * c.refMv < 2 ^ 16 * c.plausMin ∧ 1 ≤ c.periodCount := by
  simp only [Config.wf, Bool.and_eq_true, decide_eq_true_eq, and_assoc]

/-- Nothing checked reads an identity. -/
theorem Config.wf_identities (c : Config) (h l : Nat) : Config.wf { c with idStrapHigh := h, idStrapLow := l } = c.wf := rfl

/-- The largest code of the reference configuration. -/
theorem Config.reference_maxCode : Config.reference.maxCode = 4095 := by decide

end Sys2Proof
end

