-- ==== Sys2Proof/Laws/Encoding.lean ====
section
/-! SUPPORT. Operation codes: the two directions of the code map, and the decoder on numbers. -/

namespace Sys2Proof

@[simp] theorem decode_encode (i : Instr) : decode (encode i) = i := by
  cases i <;> decide

@[simp] theorem encode_decode (w : SeqCode) : encode (decode w) = w := by
  revert w; decide

/-- A code selects an operation exactly when it is that operation's code. -/
theorem decode_eq_iff (w : SeqCode) (i : Instr) : decode w = i ↔ w = encode i := by
  constructor
  · rintro rfl; exact (encode_decode w).symm
  · rintro rfl; exact decode_encode i

/-- The decoder accepts exactly the numbers below 16. -/
theorem decodeNumber_cases (w : Nat) :
    (w < 16 ∧ decodeNumber w = .ok (decode (BitVec.ofNat 4 w))) ∨
    (16 ≤ w ∧ decodeNumber w = .error .widerThanFourBits) := by
  unfold decodeNumber
  split
  · exact .inl ⟨‹_›, rfl⟩
  · exact .inr ⟨by omega, rfl⟩

/-- An encoded operation, read back as a number, decodes to itself. -/
theorem decodeNumber_encode (i : Instr) : decodeNumber (encode i).toNat = .ok i := by
  cases i <;> rfl

end Sys2Proof
end

