-- ==== Sys2Proof/Laws/State.lean ====
section
/-! SUPPORT. One lemma for each field of State under each update, so that no proof unfolds a record update. -/

namespace Sys2Proof.Machine

/-! ## Per-channel registers -/

@[simp] theorem PerChannel.get_set_same {α : Type} (r : PerChannel α) (c : Channel) (a : α) : (r.set c a).get c = a := by
  cases c <;> rfl

theorem PerChannel.get_set_other {α : Type} (r : PerChannel α) {c d : Channel} (a : α) (h : d ≠ c) :
    (r.set c a).get d = r.get d := by
  cases c <;> cases d <;> first | rfl | exact absurd rfl h

theorem PerChannel.ext_get {α : Type} {r q : PerChannel α} (h : ∀ c, r.get c = q.get c) : r = q := by
  obtain ⟨r0, r1, r2⟩ := r
  obtain ⟨q0, q1, q2⟩ := q
  have h0 := h .ch0
  have h1 := h .ch1
  have h2 := h .ch2
  simp only [PerChannel.get] at h0 h1 h2
  rw [h0, h1, h2]

@[simp] theorem PerChannel.get_all {α : Type} (a : α) (c : Channel) : (PerChannel.all a).get c = a := by
  cases c <;> rfl

/-! ## goTo -/

@[simp] theorem goTo_cfg (i : Instr) (s : State) : (goTo i s).cfg = s.cfg := rfl
@[simp] theorem goTo_seq (i : Instr) (s : State) : (goTo i s).seq = encode i := rfl
@[simp] theorem goTo_status (i : Instr) (s : State) : (goTo i s).status = s.status := rfl
@[simp] theorem goTo_raw (i : Instr) (s : State) : (goTo i s).raw = s.raw := rfl
@[simp] theorem goTo_mv (i : Instr) (s : State) : (goTo i s).mv = s.mv := rfl
@[simp] theorem goTo_calRaw (i : Instr) (s : State) : (goTo i s).calRaw = s.calRaw := rfl
@[simp] theorem goTo_devId (i : Instr) (s : State) : (goTo i s).devId = s.devId := rfl
@[simp] theorem goTo_txid (i : Instr) (s : State) : (goTo i s).txid = s.txid := rfl
@[simp] theorem goTo_txbuf (i : Instr) (s : State) : (goTo i s).txbuf = s.txbuf := rfl
@[simp] theorem goTo_ptmr (i : Instr) (s : State) : (goTo i s).ptmr = s.ptmr := rfl
@[simp] theorem goTo_txBusy (i : Instr) (s : State) : (goTo i s).txBusy = s.txBusy := rfl
@[simp] theorem goTo_held (i : Instr) (s : State) : (goTo i s).held = s.held := rfl
@[simp] theorem goTo_adcAns (i : Instr) (s : State) : (goTo i s).adcAns = s.adcAns := rfl
@[simp] theorem goTo_strapAns (i : Instr) (s : State) : (goTo i s).strapAns = s.strapAns := rfl
@[simp] theorem goTo_resetIn (i : Instr) (s : State) : (goTo i s).resetIn = s.resetIn := rfl
@[simp] theorem goTo_lifetime (i : Instr) (s : State) : (goTo i s).lifetime = s.lifetime := rfl
@[simp] theorem goTo_history (i : Instr) (s : State) : (goTo i s).history = s.history := rfl
@[simp] theorem goTo_env (i : Instr) (s : State) : (goTo i s).env = s.env := rfl

/-! ## record -/

@[simp] theorem record_cfg (e : Event) (s : State) : (record e s).cfg = s.cfg := rfl
@[simp] theorem record_seq (e : Event) (s : State) : (record e s).seq = s.seq := rfl
@[simp] theorem record_status (e : Event) (s : State) : (record e s).status = s.status := rfl
@[simp] theorem record_raw (e : Event) (s : State) : (record e s).raw = s.raw := rfl
@[simp] theorem record_mv (e : Event) (s : State) : (record e s).mv = s.mv := rfl
@[simp] theorem record_calRaw (e : Event) (s : State) : (record e s).calRaw = s.calRaw := rfl
@[simp] theorem record_devId (e : Event) (s : State) : (record e s).devId = s.devId := rfl
@[simp] theorem record_txid (e : Event) (s : State) : (record e s).txid = s.txid := rfl
@[simp] theorem record_txbuf (e : Event) (s : State) : (record e s).txbuf = s.txbuf := rfl
@[simp] theorem record_ptmr (e : Event) (s : State) : (record e s).ptmr = s.ptmr := rfl
@[simp] theorem record_txBusy (e : Event) (s : State) : (record e s).txBusy = s.txBusy := rfl
@[simp] theorem record_held (e : Event) (s : State) : (record e s).held = s.held := rfl
@[simp] theorem record_adcAns (e : Event) (s : State) : (record e s).adcAns = s.adcAns := rfl
@[simp] theorem record_strapAns (e : Event) (s : State) : (record e s).strapAns = s.strapAns := rfl
@[simp] theorem record_resetIn (e : Event) (s : State) : (record e s).resetIn = s.resetIn := rfl
@[simp] theorem record_lifetime (e : Event) (s : State) : (record e s).lifetime = s.lifetime := rfl
@[simp] theorem record_history (e : Event) (s : State) : (record e s).history = s.history ++ [e] := rfl
@[simp] theorem record_env (e : Event) (s : State) : (record e s).env = s.env := rfl

/-! ## writeRaw -/

@[simp] theorem writeRaw_cfg (c : Channel) (v : Nat) (s : State) : (writeRaw c v s).cfg = s.cfg := rfl
@[simp] theorem writeRaw_seq (c : Channel) (v : Nat) (s : State) : (writeRaw c v s).seq = s.seq := rfl
@[simp] theorem writeRaw_status (c : Channel) (v : Nat) (s : State) : (writeRaw c v s).status = s.status := rfl
@[simp] theorem writeRaw_raw (c : Channel) (v : Nat) (s : State) : (writeRaw c v s).raw = s.raw.set c v := rfl
@[simp] theorem writeRaw_mv (c : Channel) (v : Nat) (s : State) : (writeRaw c v s).mv = s.mv := rfl
@[simp] theorem writeRaw_calRaw (c : Channel) (v : Nat) (s : State) : (writeRaw c v s).calRaw = s.calRaw := rfl
@[simp] theorem writeRaw_devId (c : Channel) (v : Nat) (s : State) : (writeRaw c v s).devId = s.devId := rfl
@[simp] theorem writeRaw_txid (c : Channel) (v : Nat) (s : State) : (writeRaw c v s).txid = s.txid := rfl
@[simp] theorem writeRaw_txbuf (c : Channel) (v : Nat) (s : State) : (writeRaw c v s).txbuf = s.txbuf := rfl
@[simp] theorem writeRaw_ptmr (c : Channel) (v : Nat) (s : State) : (writeRaw c v s).ptmr = s.ptmr := rfl
@[simp] theorem writeRaw_txBusy (c : Channel) (v : Nat) (s : State) : (writeRaw c v s).txBusy = s.txBusy := rfl
@[simp] theorem writeRaw_held (c : Channel) (v : Nat) (s : State) : (writeRaw c v s).held = { s.held with raw := s.held.raw.set c true } := rfl
@[simp] theorem writeRaw_adcAns (c : Channel) (v : Nat) (s : State) : (writeRaw c v s).adcAns = s.adcAns := rfl
@[simp] theorem writeRaw_strapAns (c : Channel) (v : Nat) (s : State) : (writeRaw c v s).strapAns = s.strapAns := rfl
@[simp] theorem writeRaw_resetIn (c : Channel) (v : Nat) (s : State) : (writeRaw c v s).resetIn = s.resetIn := rfl
@[simp] theorem writeRaw_lifetime (c : Channel) (v : Nat) (s : State) : (writeRaw c v s).lifetime = s.lifetime := rfl
@[simp] theorem writeRaw_history (c : Channel) (v : Nat) (s : State) : (writeRaw c v s).history = s.history := rfl
@[simp] theorem writeRaw_env (c : Channel) (v : Nat) (s : State) : (writeRaw c v s).env = s.env := rfl

/-! ## writeMv -/

@[simp] theorem writeMv_cfg (c : Channel) (v : Millivolts) (s : State) : (writeMv c v s).cfg = s.cfg := rfl
@[simp] theorem writeMv_seq (c : Channel) (v : Millivolts) (s : State) : (writeMv c v s).seq = s.seq := rfl
@[simp] theorem writeMv_status (c : Channel) (v : Millivolts) (s : State) : (writeMv c v s).status = s.status := rfl
@[simp] theorem writeMv_raw (c : Channel) (v : Millivolts) (s : State) : (writeMv c v s).raw = s.raw := rfl
@[simp] theorem writeMv_mv (c : Channel) (v : Millivolts) (s : State) : (writeMv c v s).mv = s.mv.set c v := rfl
@[simp] theorem writeMv_calRaw (c : Channel) (v : Millivolts) (s : State) : (writeMv c v s).calRaw = s.calRaw := rfl
@[simp] theorem writeMv_devId (c : Channel) (v : Millivolts) (s : State) : (writeMv c v s).devId = s.devId := rfl
@[simp] theorem writeMv_txid (c : Channel) (v : Millivolts) (s : State) : (writeMv c v s).txid = s.txid := rfl
@[simp] theorem writeMv_txbuf (c : Channel) (v : Millivolts) (s : State) : (writeMv c v s).txbuf = s.txbuf := rfl
@[simp] theorem writeMv_ptmr (c : Channel) (v : Millivolts) (s : State) : (writeMv c v s).ptmr = s.ptmr := rfl
@[simp] theorem writeMv_txBusy (c : Channel) (v : Millivolts) (s : State) : (writeMv c v s).txBusy = s.txBusy := rfl
@[simp] theorem writeMv_held (c : Channel) (v : Millivolts) (s : State) : (writeMv c v s).held = { s.held with mv := s.held.mv.set c true } := rfl
@[simp] theorem writeMv_adcAns (c : Channel) (v : Millivolts) (s : State) : (writeMv c v s).adcAns = s.adcAns := rfl
@[simp] theorem writeMv_strapAns (c : Channel) (v : Millivolts) (s : State) : (writeMv c v s).strapAns = s.strapAns := rfl
@[simp] theorem writeMv_resetIn (c : Channel) (v : Millivolts) (s : State) : (writeMv c v s).resetIn = s.resetIn := rfl
@[simp] theorem writeMv_lifetime (c : Channel) (v : Millivolts) (s : State) : (writeMv c v s).lifetime = s.lifetime := rfl
@[simp] theorem writeMv_history (c : Channel) (v : Millivolts) (s : State) : (writeMv c v s).history = s.history := rfl
@[simp] theorem writeMv_env (c : Channel) (v : Millivolts) (s : State) : (writeMv c v s).env = s.env := rfl

/-! ## writeCalRaw -/

@[simp] theorem writeCalRaw_cfg (v : Nat) (s : State) : (writeCalRaw v s).cfg = s.cfg := rfl
@[simp] theorem writeCalRaw_seq (v : Nat) (s : State) : (writeCalRaw v s).seq = s.seq := rfl
@[simp] theorem writeCalRaw_status (v : Nat) (s : State) : (writeCalRaw v s).status = s.status := rfl
@[simp] theorem writeCalRaw_raw (v : Nat) (s : State) : (writeCalRaw v s).raw = s.raw := rfl
@[simp] theorem writeCalRaw_mv (v : Nat) (s : State) : (writeCalRaw v s).mv = s.mv := rfl
@[simp] theorem writeCalRaw_calRaw (v : Nat) (s : State) : (writeCalRaw v s).calRaw = v := rfl
@[simp] theorem writeCalRaw_devId (v : Nat) (s : State) : (writeCalRaw v s).devId = s.devId := rfl
@[simp] theorem writeCalRaw_txid (v : Nat) (s : State) : (writeCalRaw v s).txid = s.txid := rfl
@[simp] theorem writeCalRaw_txbuf (v : Nat) (s : State) : (writeCalRaw v s).txbuf = s.txbuf := rfl
@[simp] theorem writeCalRaw_ptmr (v : Nat) (s : State) : (writeCalRaw v s).ptmr = s.ptmr := rfl
@[simp] theorem writeCalRaw_txBusy (v : Nat) (s : State) : (writeCalRaw v s).txBusy = s.txBusy := rfl
@[simp] theorem writeCalRaw_held (v : Nat) (s : State) : (writeCalRaw v s).held = { s.held with calRaw := true } := rfl
@[simp] theorem writeCalRaw_adcAns (v : Nat) (s : State) : (writeCalRaw v s).adcAns = s.adcAns := rfl
@[simp] theorem writeCalRaw_strapAns (v : Nat) (s : State) : (writeCalRaw v s).strapAns = s.strapAns := rfl
@[simp] theorem writeCalRaw_resetIn (v : Nat) (s : State) : (writeCalRaw v s).resetIn = s.resetIn := rfl
@[simp] theorem writeCalRaw_lifetime (v : Nat) (s : State) : (writeCalRaw v s).lifetime = s.lifetime := rfl
@[simp] theorem writeCalRaw_history (v : Nat) (s : State) : (writeCalRaw v s).history = s.history := rfl
@[simp] theorem writeCalRaw_env (v : Nat) (s : State) : (writeCalRaw v s).env = s.env := rfl

/-! ## writeDevId -/

@[simp] theorem writeDevId_cfg (v : Identity) (s : State) : (writeDevId v s).cfg = s.cfg := rfl
@[simp] theorem writeDevId_seq (v : Identity) (s : State) : (writeDevId v s).seq = s.seq := rfl
@[simp] theorem writeDevId_status (v : Identity) (s : State) : (writeDevId v s).status = s.status := rfl
@[simp] theorem writeDevId_raw (v : Identity) (s : State) : (writeDevId v s).raw = s.raw := rfl
@[simp] theorem writeDevId_mv (v : Identity) (s : State) : (writeDevId v s).mv = s.mv := rfl
@[simp] theorem writeDevId_calRaw (v : Identity) (s : State) : (writeDevId v s).calRaw = s.calRaw := rfl
@[simp] theorem writeDevId_devId (v : Identity) (s : State) : (writeDevId v s).devId = v := rfl
@[simp] theorem writeDevId_txid (v : Identity) (s : State) : (writeDevId v s).txid = s.txid := rfl
@[simp] theorem writeDevId_txbuf (v : Identity) (s : State) : (writeDevId v s).txbuf = s.txbuf := rfl
@[simp] theorem writeDevId_ptmr (v : Identity) (s : State) : (writeDevId v s).ptmr = s.ptmr := rfl
@[simp] theorem writeDevId_txBusy (v : Identity) (s : State) : (writeDevId v s).txBusy = s.txBusy := rfl
@[simp] theorem writeDevId_held (v : Identity) (s : State) : (writeDevId v s).held = { s.held with devId := true } := rfl
@[simp] theorem writeDevId_adcAns (v : Identity) (s : State) : (writeDevId v s).adcAns = s.adcAns := rfl
@[simp] theorem writeDevId_strapAns (v : Identity) (s : State) : (writeDevId v s).strapAns = s.strapAns := rfl
@[simp] theorem writeDevId_resetIn (v : Identity) (s : State) : (writeDevId v s).resetIn = s.resetIn := rfl
@[simp] theorem writeDevId_lifetime (v : Identity) (s : State) : (writeDevId v s).lifetime = s.lifetime := rfl
@[simp] theorem writeDevId_history (v : Identity) (s : State) : (writeDevId v s).history = s.history := rfl
@[simp] theorem writeDevId_env (v : Identity) (s : State) : (writeDevId v s).env = s.env := rfl

/-! ## writeTxid -/

@[simp] theorem writeTxid_cfg (v : Identity) (s : State) : (writeTxid v s).cfg = s.cfg := rfl
@[simp] theorem writeTxid_seq (v : Identity) (s : State) : (writeTxid v s).seq = s.seq := rfl
@[simp] theorem writeTxid_status (v : Identity) (s : State) : (writeTxid v s).status = s.status := rfl
@[simp] theorem writeTxid_raw (v : Identity) (s : State) : (writeTxid v s).raw = s.raw := rfl
@[simp] theorem writeTxid_mv (v : Identity) (s : State) : (writeTxid v s).mv = s.mv := rfl
@[simp] theorem writeTxid_calRaw (v : Identity) (s : State) : (writeTxid v s).calRaw = s.calRaw := rfl
@[simp] theorem writeTxid_devId (v : Identity) (s : State) : (writeTxid v s).devId = s.devId := rfl
@[simp] theorem writeTxid_txid (v : Identity) (s : State) : (writeTxid v s).txid = v := rfl
@[simp] theorem writeTxid_txbuf (v : Identity) (s : State) : (writeTxid v s).txbuf = s.txbuf := rfl
@[simp] theorem writeTxid_ptmr (v : Identity) (s : State) : (writeTxid v s).ptmr = s.ptmr := rfl
@[simp] theorem writeTxid_txBusy (v : Identity) (s : State) : (writeTxid v s).txBusy = s.txBusy := rfl
@[simp] theorem writeTxid_held (v : Identity) (s : State) : (writeTxid v s).held = { s.held with txid := true } := rfl
@[simp] theorem writeTxid_adcAns (v : Identity) (s : State) : (writeTxid v s).adcAns = s.adcAns := rfl
@[simp] theorem writeTxid_strapAns (v : Identity) (s : State) : (writeTxid v s).strapAns = s.strapAns := rfl
@[simp] theorem writeTxid_resetIn (v : Identity) (s : State) : (writeTxid v s).resetIn = s.resetIn := rfl
@[simp] theorem writeTxid_lifetime (v : Identity) (s : State) : (writeTxid v s).lifetime = s.lifetime := rfl
@[simp] theorem writeTxid_history (v : Identity) (s : State) : (writeTxid v s).history = s.history := rfl
@[simp] theorem writeTxid_env (v : Identity) (s : State) : (writeTxid v s).env = s.env := rfl

/-! ## setCalValid -/

@[simp] theorem setCalValid_cfg (s : State) : (setCalValid s).cfg = s.cfg := rfl
@[simp] theorem setCalValid_seq (s : State) : (setCalValid s).seq = s.seq := rfl
@[simp] theorem setCalValid_status (s : State) : (setCalValid s).status = s.status ||| 0x01#8 := rfl
@[simp] theorem setCalValid_raw (s : State) : (setCalValid s).raw = s.raw := rfl
@[simp] theorem setCalValid_mv (s : State) : (setCalValid s).mv = s.mv := rfl
@[simp] theorem setCalValid_calRaw (s : State) : (setCalValid s).calRaw = s.calRaw := rfl
@[simp] theorem setCalValid_devId (s : State) : (setCalValid s).devId = s.devId := rfl
@[simp] theorem setCalValid_txid (s : State) : (setCalValid s).txid = s.txid := rfl
@[simp] theorem setCalValid_txbuf (s : State) : (setCalValid s).txbuf = s.txbuf := rfl
@[simp] theorem setCalValid_ptmr (s : State) : (setCalValid s).ptmr = s.ptmr := rfl
@[simp] theorem setCalValid_txBusy (s : State) : (setCalValid s).txBusy = s.txBusy := rfl
@[simp] theorem setCalValid_held (s : State) : (setCalValid s).held = s.held := rfl
@[simp] theorem setCalValid_adcAns (s : State) : (setCalValid s).adcAns = s.adcAns := rfl
@[simp] theorem setCalValid_strapAns (s : State) : (setCalValid s).strapAns = s.strapAns := rfl
@[simp] theorem setCalValid_resetIn (s : State) : (setCalValid s).resetIn = s.resetIn := rfl
@[simp] theorem setCalValid_lifetime (s : State) : (setCalValid s).lifetime = s.lifetime := rfl
@[simp] theorem setCalValid_history (s : State) : (setCalValid s).history = s.history := rfl
@[simp] theorem setCalValid_env (s : State) : (setCalValid s).env = s.env := rfl

/-! ## setIdValid -/

@[simp] theorem setIdValid_cfg (s : State) : (setIdValid s).cfg = s.cfg := rfl
@[simp] theorem setIdValid_seq (s : State) : (setIdValid s).seq = s.seq := rfl
@[simp] theorem setIdValid_status (s : State) : (setIdValid s).status = s.status ||| 0x02#8 := rfl
@[simp] theorem setIdValid_raw (s : State) : (setIdValid s).raw = s.raw := rfl
@[simp] theorem setIdValid_mv (s : State) : (setIdValid s).mv = s.mv := rfl
@[simp] theorem setIdValid_calRaw (s : State) : (setIdValid s).calRaw = s.calRaw := rfl
@[simp] theorem setIdValid_devId (s : State) : (setIdValid s).devId = s.devId := rfl
@[simp] theorem setIdValid_txid (s : State) : (setIdValid s).txid = s.txid := rfl
@[simp] theorem setIdValid_txbuf (s : State) : (setIdValid s).txbuf = s.txbuf := rfl
@[simp] theorem setIdValid_ptmr (s : State) : (setIdValid s).ptmr = s.ptmr := rfl
@[simp] theorem setIdValid_txBusy (s : State) : (setIdValid s).txBusy = s.txBusy := rfl
@[simp] theorem setIdValid_held (s : State) : (setIdValid s).held = s.held := rfl
@[simp] theorem setIdValid_adcAns (s : State) : (setIdValid s).adcAns = s.adcAns := rfl
@[simp] theorem setIdValid_strapAns (s : State) : (setIdValid s).strapAns = s.strapAns := rfl
@[simp] theorem setIdValid_resetIn (s : State) : (setIdValid s).resetIn = s.resetIn := rfl
@[simp] theorem setIdValid_lifetime (s : State) : (setIdValid s).lifetime = s.lifetime := rfl
@[simp] theorem setIdValid_history (s : State) : (setIdValid s).history = s.history := rfl
@[simp] theorem setIdValid_env (s : State) : (setIdValid s).env = s.env := rfl

/-! ## setTickPend -/

@[simp] theorem setTickPend_cfg (s : State) : (setTickPend s).cfg = s.cfg := rfl
@[simp] theorem setTickPend_seq (s : State) : (setTickPend s).seq = s.seq := rfl
@[simp] theorem setTickPend_status (s : State) : (setTickPend s).status = s.status ||| 0x04#8 := rfl
@[simp] theorem setTickPend_raw (s : State) : (setTickPend s).raw = s.raw := rfl
@[simp] theorem setTickPend_mv (s : State) : (setTickPend s).mv = s.mv := rfl
@[simp] theorem setTickPend_calRaw (s : State) : (setTickPend s).calRaw = s.calRaw := rfl
@[simp] theorem setTickPend_devId (s : State) : (setTickPend s).devId = s.devId := rfl
@[simp] theorem setTickPend_txid (s : State) : (setTickPend s).txid = s.txid := rfl
@[simp] theorem setTickPend_txbuf (s : State) : (setTickPend s).txbuf = s.txbuf := rfl
@[simp] theorem setTickPend_ptmr (s : State) : (setTickPend s).ptmr = s.ptmr := rfl
@[simp] theorem setTickPend_txBusy (s : State) : (setTickPend s).txBusy = s.txBusy := rfl
@[simp] theorem setTickPend_held (s : State) : (setTickPend s).held = s.held := rfl
@[simp] theorem setTickPend_adcAns (s : State) : (setTickPend s).adcAns = s.adcAns := rfl
@[simp] theorem setTickPend_strapAns (s : State) : (setTickPend s).strapAns = s.strapAns := rfl
@[simp] theorem setTickPend_resetIn (s : State) : (setTickPend s).resetIn = s.resetIn := rfl
@[simp] theorem setTickPend_lifetime (s : State) : (setTickPend s).lifetime = s.lifetime := rfl
@[simp] theorem setTickPend_history (s : State) : (setTickPend s).history = s.history := rfl
@[simp] theorem setTickPend_env (s : State) : (setTickPend s).env = s.env := rfl

/-! ## clearTickPend -/

@[simp] theorem clearTickPend_cfg (s : State) : (clearTickPend s).cfg = s.cfg := rfl
@[simp] theorem clearTickPend_seq (s : State) : (clearTickPend s).seq = s.seq := rfl
@[simp] theorem clearTickPend_status (s : State) : (clearTickPend s).status = s.status &&& 0xFB#8 := rfl
@[simp] theorem clearTickPend_raw (s : State) : (clearTickPend s).raw = s.raw := rfl
@[simp] theorem clearTickPend_mv (s : State) : (clearTickPend s).mv = s.mv := rfl
@[simp] theorem clearTickPend_calRaw (s : State) : (clearTickPend s).calRaw = s.calRaw := rfl
@[simp] theorem clearTickPend_devId (s : State) : (clearTickPend s).devId = s.devId := rfl
@[simp] theorem clearTickPend_txid (s : State) : (clearTickPend s).txid = s.txid := rfl
@[simp] theorem clearTickPend_txbuf (s : State) : (clearTickPend s).txbuf = s.txbuf := rfl
@[simp] theorem clearTickPend_ptmr (s : State) : (clearTickPend s).ptmr = s.ptmr := rfl
@[simp] theorem clearTickPend_txBusy (s : State) : (clearTickPend s).txBusy = s.txBusy := rfl
@[simp] theorem clearTickPend_held (s : State) : (clearTickPend s).held = s.held := rfl
@[simp] theorem clearTickPend_adcAns (s : State) : (clearTickPend s).adcAns = s.adcAns := rfl
@[simp] theorem clearTickPend_strapAns (s : State) : (clearTickPend s).strapAns = s.strapAns := rfl
@[simp] theorem clearTickPend_resetIn (s : State) : (clearTickPend s).resetIn = s.resetIn := rfl
@[simp] theorem clearTickPend_lifetime (s : State) : (clearTickPend s).lifetime = s.lifetime := rfl
@[simp] theorem clearTickPend_history (s : State) : (clearTickPend s).history = s.history := rfl
@[simp] theorem clearTickPend_env (s : State) : (clearTickPend s).env = s.env := rfl

/-! ## takeAdc -/

@[simp] theorem takeAdc_cfg (sel : TwoBits) (v : Nat) (s : State) : (takeAdc sel v s).cfg = s.cfg := rfl
@[simp] theorem takeAdc_seq (sel : TwoBits) (v : Nat) (s : State) : (takeAdc sel v s).seq = s.seq := rfl
@[simp] theorem takeAdc_status (sel : TwoBits) (v : Nat) (s : State) : (takeAdc sel v s).status = s.status := rfl
@[simp] theorem takeAdc_raw (sel : TwoBits) (v : Nat) (s : State) : (takeAdc sel v s).raw = s.raw := rfl
@[simp] theorem takeAdc_mv (sel : TwoBits) (v : Nat) (s : State) : (takeAdc sel v s).mv = s.mv := rfl
@[simp] theorem takeAdc_calRaw (sel : TwoBits) (v : Nat) (s : State) : (takeAdc sel v s).calRaw = s.calRaw := rfl
@[simp] theorem takeAdc_devId (sel : TwoBits) (v : Nat) (s : State) : (takeAdc sel v s).devId = s.devId := rfl
@[simp] theorem takeAdc_txid (sel : TwoBits) (v : Nat) (s : State) : (takeAdc sel v s).txid = s.txid := rfl
@[simp] theorem takeAdc_txbuf (sel : TwoBits) (v : Nat) (s : State) : (takeAdc sel v s).txbuf = s.txbuf := rfl
@[simp] theorem takeAdc_ptmr (sel : TwoBits) (v : Nat) (s : State) : (takeAdc sel v s).ptmr = s.ptmr := rfl
@[simp] theorem takeAdc_txBusy (sel : TwoBits) (v : Nat) (s : State) : (takeAdc sel v s).txBusy = s.txBusy := rfl
@[simp] theorem takeAdc_held (sel : TwoBits) (v : Nat) (s : State) : (takeAdc sel v s).held = s.held := rfl
@[simp] theorem takeAdc_adcAns (sel : TwoBits) (v : Nat) (s : State) : (takeAdc sel v s).adcAns = none := rfl
@[simp] theorem takeAdc_strapAns (sel : TwoBits) (v : Nat) (s : State) : (takeAdc sel v s).strapAns = s.strapAns := rfl
@[simp] theorem takeAdc_resetIn (sel : TwoBits) (v : Nat) (s : State) : (takeAdc sel v s).resetIn = s.resetIn := rfl
@[simp] theorem takeAdc_lifetime (sel : TwoBits) (v : Nat) (s : State) : (takeAdc sel v s).lifetime = s.lifetime := rfl
@[simp] theorem takeAdc_history (sel : TwoBits) (v : Nat) (s : State) : (takeAdc sel v s).history = s.history ++ [.adcRead sel v] := rfl
@[simp] theorem takeAdc_env (sel : TwoBits) (v : Nat) (s : State) : (takeAdc sel v s).env = s.env := rfl

/-! ## takeStrap -/

@[simp] theorem takeStrap_cfg (b : Bool) (s : State) : (takeStrap b s).cfg = s.cfg := rfl
@[simp] theorem takeStrap_seq (b : Bool) (s : State) : (takeStrap b s).seq = s.seq := rfl
@[simp] theorem takeStrap_status (b : Bool) (s : State) : (takeStrap b s).status = s.status := rfl
@[simp] theorem takeStrap_raw (b : Bool) (s : State) : (takeStrap b s).raw = s.raw := rfl
@[simp] theorem takeStrap_mv (b : Bool) (s : State) : (takeStrap b s).mv = s.mv := rfl
@[simp] theorem takeStrap_calRaw (b : Bool) (s : State) : (takeStrap b s).calRaw = s.calRaw := rfl
@[simp] theorem takeStrap_devId (b : Bool) (s : State) : (takeStrap b s).devId = s.devId := rfl
@[simp] theorem takeStrap_txid (b : Bool) (s : State) : (takeStrap b s).txid = s.txid := rfl
@[simp] theorem takeStrap_txbuf (b : Bool) (s : State) : (takeStrap b s).txbuf = s.txbuf := rfl
@[simp] theorem takeStrap_ptmr (b : Bool) (s : State) : (takeStrap b s).ptmr = s.ptmr := rfl
@[simp] theorem takeStrap_txBusy (b : Bool) (s : State) : (takeStrap b s).txBusy = s.txBusy := rfl
@[simp] theorem takeStrap_held (b : Bool) (s : State) : (takeStrap b s).held = s.held := rfl
@[simp] theorem takeStrap_adcAns (b : Bool) (s : State) : (takeStrap b s).adcAns = s.adcAns := rfl
@[simp] theorem takeStrap_strapAns (b : Bool) (s : State) : (takeStrap b s).strapAns = none := rfl
@[simp] theorem takeStrap_resetIn (b : Bool) (s : State) : (takeStrap b s).resetIn = s.resetIn := rfl
@[simp] theorem takeStrap_lifetime (b : Bool) (s : State) : (takeStrap b s).lifetime = s.lifetime := rfl
@[simp] theorem takeStrap_history (b : Bool) (s : State) : (takeStrap b s).history = s.history ++ [.strapRead b] := rfl
@[simp] theorem takeStrap_env (b : Bool) (s : State) : (takeStrap b s).env = s.env := rfl

/-! ## busTransmit -/

@[simp] theorem busTransmit_cfg (d : Identity) (p : Payload) (s : State) : (busTransmit d p s).cfg = s.cfg := rfl
@[simp] theorem busTransmit_seq (d : Identity) (p : Payload) (s : State) : (busTransmit d p s).seq = s.seq := rfl
@[simp] theorem busTransmit_status (d : Identity) (p : Payload) (s : State) : (busTransmit d p s).status = s.status := rfl
@[simp] theorem busTransmit_raw (d : Identity) (p : Payload) (s : State) : (busTransmit d p s).raw = s.raw := rfl
@[simp] theorem busTransmit_mv (d : Identity) (p : Payload) (s : State) : (busTransmit d p s).mv = s.mv := rfl
@[simp] theorem busTransmit_calRaw (d : Identity) (p : Payload) (s : State) : (busTransmit d p s).calRaw = s.calRaw := rfl
@[simp] theorem busTransmit_devId (d : Identity) (p : Payload) (s : State) : (busTransmit d p s).devId = s.devId := rfl
@[simp] theorem busTransmit_txid (d : Identity) (p : Payload) (s : State) : (busTransmit d p s).txid = s.txid := rfl
@[simp] theorem busTransmit_txbuf (d : Identity) (p : Payload) (s : State) : (busTransmit d p s).txbuf = s.txbuf := rfl
@[simp] theorem busTransmit_ptmr (d : Identity) (p : Payload) (s : State) : (busTransmit d p s).ptmr = s.ptmr := rfl
@[simp] theorem busTransmit_txBusy (d : Identity) (p : Payload) (s : State) : (busTransmit d p s).txBusy = true := rfl
@[simp] theorem busTransmit_held (d : Identity) (p : Payload) (s : State) : (busTransmit d p s).held = s.held := rfl
@[simp] theorem busTransmit_adcAns (d : Identity) (p : Payload) (s : State) : (busTransmit d p s).adcAns = s.adcAns := rfl
@[simp] theorem busTransmit_strapAns (d : Identity) (p : Payload) (s : State) : (busTransmit d p s).strapAns = s.strapAns := rfl
@[simp] theorem busTransmit_resetIn (d : Identity) (p : Payload) (s : State) : (busTransmit d p s).resetIn = s.resetIn := rfl
@[simp] theorem busTransmit_lifetime (d : Identity) (p : Payload) (s : State) : (busTransmit d p s).lifetime = s.lifetime := rfl
@[simp] theorem busTransmit_history (d : Identity) (p : Payload) (s : State) : (busTransmit d p s).history = s.history ++ [.busTransmit d p] := rfl
@[simp] theorem busTransmit_env (d : Identity) (p : Payload) (s : State) : (busTransmit d p s).env = s.env := rfl

/-! ## timerTick -/

@[simp] theorem timerTick_cfg (s : State) : (timerTick s).cfg = s.cfg := rfl
@[simp] theorem timerTick_seq (s : State) : (timerTick s).seq = s.seq := rfl
@[simp] theorem timerTick_status (s : State) : (timerTick s).status = s.status ||| 0x04#8 := rfl
@[simp] theorem timerTick_raw (s : State) : (timerTick s).raw = s.raw := rfl
@[simp] theorem timerTick_mv (s : State) : (timerTick s).mv = s.mv := rfl
@[simp] theorem timerTick_calRaw (s : State) : (timerTick s).calRaw = s.calRaw := rfl
@[simp] theorem timerTick_devId (s : State) : (timerTick s).devId = s.devId := rfl
@[simp] theorem timerTick_txid (s : State) : (timerTick s).txid = s.txid := rfl
@[simp] theorem timerTick_txbuf (s : State) : (timerTick s).txbuf = s.txbuf := rfl
@[simp] theorem timerTick_ptmr (s : State) : (timerTick s).ptmr = s.ptmr := rfl
@[simp] theorem timerTick_txBusy (s : State) : (timerTick s).txBusy = s.txBusy := rfl
@[simp] theorem timerTick_held (s : State) : (timerTick s).held = s.held := rfl
@[simp] theorem timerTick_adcAns (s : State) : (timerTick s).adcAns = s.adcAns := rfl
@[simp] theorem timerTick_strapAns (s : State) : (timerTick s).strapAns = s.strapAns := rfl
@[simp] theorem timerTick_resetIn (s : State) : (timerTick s).resetIn = s.resetIn := rfl
@[simp] theorem timerTick_lifetime (s : State) : (timerTick s).lifetime = s.lifetime := rfl
@[simp] theorem timerTick_history (s : State) : (timerTick s).history = s.history ++ [.tick] := rfl
@[simp] theorem timerTick_env (s : State) : (timerTick s).env = s.env := rfl

/-! ## setFault -/

@[simp] theorem setFault_cfg (k : CauseCode) (s : State) : (setFault k s).cfg = s.cfg := by
  unfold setFault; split <;> rfl
@[simp] theorem setFault_seq (k : CauseCode) (s : State) : (setFault k s).seq = s.seq := by
  unfold setFault; split <;> rfl
@[simp] theorem setFault_raw (k : CauseCode) (s : State) : (setFault k s).raw = s.raw := by
  unfold setFault; split <;> rfl
@[simp] theorem setFault_mv (k : CauseCode) (s : State) : (setFault k s).mv = s.mv := by
  unfold setFault; split <;> rfl
@[simp] theorem setFault_calRaw (k : CauseCode) (s : State) : (setFault k s).calRaw = s.calRaw := by
  unfold setFault; split <;> rfl
@[simp] theorem setFault_devId (k : CauseCode) (s : State) : (setFault k s).devId = s.devId := by
  unfold setFault; split <;> rfl
@[simp] theorem setFault_txid (k : CauseCode) (s : State) : (setFault k s).txid = s.txid := by
  unfold setFault; split <;> rfl
@[simp] theorem setFault_txbuf (k : CauseCode) (s : State) : (setFault k s).txbuf = s.txbuf := by
  unfold setFault; split <;> rfl
@[simp] theorem setFault_ptmr (k : CauseCode) (s : State) : (setFault k s).ptmr = s.ptmr := by
  unfold setFault; split <;> rfl
@[simp] theorem setFault_txBusy (k : CauseCode) (s : State) : (setFault k s).txBusy = s.txBusy := by
  unfold setFault; split <;> rfl
@[simp] theorem setFault_held (k : CauseCode) (s : State) : (setFault k s).held = s.held := by
  unfold setFault; split <;> rfl
@[simp] theorem setFault_adcAns (k : CauseCode) (s : State) : (setFault k s).adcAns = s.adcAns := by
  unfold setFault; split <;> rfl
@[simp] theorem setFault_strapAns (k : CauseCode) (s : State) : (setFault k s).strapAns = s.strapAns := by
  unfold setFault; split <;> rfl
@[simp] theorem setFault_resetIn (k : CauseCode) (s : State) : (setFault k s).resetIn = s.resetIn := by
  unfold setFault; split <;> rfl
@[simp] theorem setFault_lifetime (k : CauseCode) (s : State) : (setFault k s).lifetime = s.lifetime := by
  unfold setFault; split <;> rfl
@[simp] theorem setFault_history (k : CauseCode) (s : State) : (setFault k s).history = s.history := by
  unfold setFault; split <;> rfl
@[simp] theorem setFault_env (k : CauseCode) (s : State) : (setFault k s).env = s.env := by
  unfold setFault; split <;> rfl

theorem setFault_status_first (k : CauseCode) (s : State) (h : s.faultFlag = false) :
    (setFault k s).status = (s.status &&& 0x8F#8) ||| (k.setWidth 8 <<< 4) ||| 0x08#8 := by
  simp [setFault, h]

theorem setFault_again (k : CauseCode) (s : State) (h : s.faultFlag = true) : setFault k s = s := by
  simp [setFault, h]

/-! ## The reset values -/

@[simp] theorem resetWith_cfg (c : Config) : (State.resetWith c).cfg = c := rfl
@[simp] theorem resetWith_seq (c : Config) : (State.resetWith c).seq = 0x0 := rfl
@[simp] theorem resetWith_status (c : Config) : (State.resetWith c).status = 0x00 := rfl
@[simp] theorem resetWith_raw (c : Config) : (State.resetWith c).raw = PerChannel.all 0 := rfl
@[simp] theorem resetWith_mv (c : Config) : (State.resetWith c).mv = PerChannel.all 0 := rfl
@[simp] theorem resetWith_calRaw (c : Config) : (State.resetWith c).calRaw = 0 := rfl
@[simp] theorem resetWith_devId (c : Config) : (State.resetWith c).devId = 0 := rfl
@[simp] theorem resetWith_txid (c : Config) : (State.resetWith c).txid = 0 := rfl
@[simp] theorem resetWith_txbuf (c : Config) : (State.resetWith c).txbuf = [] := rfl
@[simp] theorem resetWith_ptmr (c : Config) : (State.resetWith c).ptmr = c.periodCount - 1 := rfl
@[simp] theorem resetWith_txBusy (c : Config) : (State.resetWith c).txBusy = false := rfl
@[simp] theorem resetWith_held (c : Config) : (State.resetWith c).held = Held.none := rfl
@[simp] theorem resetWith_adcAns (c : Config) : (State.resetWith c).adcAns = none := rfl
@[simp] theorem resetWith_strapAns (c : Config) : (State.resetWith c).strapAns = none := rfl
@[simp] theorem resetWith_resetIn (c : Config) : (State.resetWith c).resetIn = false := rfl
@[simp] theorem resetWith_lifetime (c : Config) : (State.resetWith c).lifetime = 0 := rfl
@[simp] theorem resetWith_history (c : Config) : (State.resetWith c).history = [] := rfl
@[simp] theorem resetWith_env (c : Config) : (State.resetWith c).env = [] := rfl

end Sys2Proof.Machine
end

