-- ==== Sys2Proof/Laws/Flags.lean ====
section
/-! SUPPORT. What each update of `STATUS` does to each of its fields. The facts about the word itself are decided over all 256
values; the lemmas about states cite them. -/

namespace Sys2Proof.Machine

/-! ## The word -/

theorem word_or_one : ∀ w : StatusWord, (w ||| 0x01#8).getLsbD 0 = true ∧ (w ||| 0x01#8).getLsbD 1 = w.getLsbD 1 ∧
    (w ||| 0x01#8).getLsbD 2 = w.getLsbD 2 ∧ (w ||| 0x01#8).getLsbD 3 = w.getLsbD 3 ∧
    (w ||| 0x01#8).extractLsb' 4 3 = w.extractLsb' 4 3 ∧ (w ||| 0x01#8).getLsbD 7 = w.getLsbD 7 := by decide

theorem word_or_two : ∀ w : StatusWord, (w ||| 0x02#8).getLsbD 0 = w.getLsbD 0 ∧ (w ||| 0x02#8).getLsbD 1 = true ∧
    (w ||| 0x02#8).getLsbD 2 = w.getLsbD 2 ∧ (w ||| 0x02#8).getLsbD 3 = w.getLsbD 3 ∧
    (w ||| 0x02#8).extractLsb' 4 3 = w.extractLsb' 4 3 ∧ (w ||| 0x02#8).getLsbD 7 = w.getLsbD 7 := by decide

theorem word_or_four : ∀ w : StatusWord, (w ||| 0x04#8).getLsbD 0 = w.getLsbD 0 ∧ (w ||| 0x04#8).getLsbD 1 = w.getLsbD 1 ∧
    (w ||| 0x04#8).getLsbD 2 = true ∧ (w ||| 0x04#8).getLsbD 3 = w.getLsbD 3 ∧
    (w ||| 0x04#8).extractLsb' 4 3 = w.extractLsb' 4 3 ∧ (w ||| 0x04#8).getLsbD 7 = w.getLsbD 7 := by decide

theorem word_clear_four : ∀ w : StatusWord, (w &&& 0xFB#8).getLsbD 0 = w.getLsbD 0 ∧ (w &&& 0xFB#8).getLsbD 1 = w.getLsbD 1 ∧
    (w &&& 0xFB#8).getLsbD 2 = false ∧ (w &&& 0xFB#8).getLsbD 3 = w.getLsbD 3 ∧
    (w &&& 0xFB#8).extractLsb' 4 3 = w.extractLsb' 4 3 ∧ (w &&& 0xFB#8).getLsbD 7 = w.getLsbD 7 := by decide

theorem word_fault : ∀ (w : StatusWord) (k : CauseCode),
    ((w &&& 0x8F#8) ||| (k.setWidth 8 <<< 4) ||| 0x08#8).getLsbD 0 = w.getLsbD 0 ∧
    ((w &&& 0x8F#8) ||| (k.setWidth 8 <<< 4) ||| 0x08#8).getLsbD 1 = w.getLsbD 1 ∧
    ((w &&& 0x8F#8) ||| (k.setWidth 8 <<< 4) ||| 0x08#8).getLsbD 2 = w.getLsbD 2 ∧
    ((w &&& 0x8F#8) ||| (k.setWidth 8 <<< 4) ||| 0x08#8).getLsbD 3 = true ∧
    ((w &&& 0x8F#8) ||| (k.setWidth 8 <<< 4) ||| 0x08#8).extractLsb' 4 3 = k ∧
    ((w &&& 0x8F#8) ||| (k.setWidth 8 <<< 4) ||| 0x08#8).getLsbD 7 = w.getLsbD 7 := by decide

/-! ## The states -/

/-- `CAL_VALID <- 1` sets that field and leaves the others. -/
@[simp] theorem setCalValid_fields (s : State) :
    (setCalValid s).calValid = true ∧ (setCalValid s).idValid = s.idValid ∧ (setCalValid s).tickPend = s.tickPend ∧
    (setCalValid s).faultFlag = s.faultFlag ∧ (setCalValid s).cause = s.cause := by
  obtain ⟨h0, h1, h2, h3, h4, -⟩ := word_or_one s.status
  exact ⟨h0, h1, h2, h3, h4⟩

/-- `ID_VALID <- 1` sets that field and leaves the others. -/
@[simp] theorem setIdValid_fields (s : State) :
    (setIdValid s).calValid = s.calValid ∧ (setIdValid s).idValid = true ∧ (setIdValid s).tickPend = s.tickPend ∧
    (setIdValid s).faultFlag = s.faultFlag ∧ (setIdValid s).cause = s.cause := by
  obtain ⟨h0, h1, h2, h3, h4, -⟩ := word_or_two s.status
  exact ⟨h0, h1, h2, h3, h4⟩

/-- `TICK_PEND <- 1` sets that field and leaves the others. -/
@[simp] theorem setTickPend_fields (s : State) :
    (setTickPend s).calValid = s.calValid ∧ (setTickPend s).idValid = s.idValid ∧ (setTickPend s).tickPend = true ∧
    (setTickPend s).faultFlag = s.faultFlag ∧ (setTickPend s).cause = s.cause := by
  obtain ⟨h0, h1, h2, h3, h4, -⟩ := word_or_four s.status
  exact ⟨h0, h1, h2, h3, h4⟩

/-- `TICK_PEND <- 0` clears that field and leaves the others. -/
@[simp] theorem clearTickPend_fields (s : State) :
    (clearTickPend s).calValid = s.calValid ∧ (clearTickPend s).idValid = s.idValid ∧
    (clearTickPend s).tickPend = false ∧ (clearTickPend s).faultFlag = s.faultFlag ∧
    (clearTickPend s).cause = s.cause := by
  obtain ⟨h0, h1, h2, h3, h4, -⟩ := word_clear_four s.status
  exact ⟨h0, h1, h2, h3, h4⟩

/-- Fault entry's update of `STATUS`: `FAULT` is 1, `CAUSE` is the new code, or the old one if `FAULT` was 1 already, and the other
fields stay (60_exceptions.md R128). -/
theorem setFault_fields (k : CauseCode) (s : State) :
    (setFault k s).calValid = s.calValid ∧ (setFault k s).idValid = s.idValid ∧
    (setFault k s).tickPend = s.tickPend ∧ (setFault k s).faultFlag = true ∧
    (setFault k s).cause = if s.faultFlag then s.cause else k := by
  obtain ⟨h0, h1, h2, h3, h4, -⟩ := word_fault s.status k
  unfold setFault
  split
  · exact ⟨rfl, rfl, rfl, ‹_›, rfl⟩
  · exact ⟨h0, h1, h2, h3, h4⟩

/-- No update of `STATUS` writes reserved bit 7 (10_state.md R23). -/
theorem status_updates_keep_reserved (k : CauseCode) (s : State) :
    (setCalValid s).status.getLsbD 7 = s.status.getLsbD 7 ∧ (setIdValid s).status.getLsbD 7 = s.status.getLsbD 7 ∧
    (setTickPend s).status.getLsbD 7 = s.status.getLsbD 7 ∧ (clearTickPend s).status.getLsbD 7 = s.status.getLsbD 7 ∧
    (setFault k s).status.getLsbD 7 = s.status.getLsbD 7 := by
  refine ⟨(word_or_one _).2.2.2.2.2, (word_or_two _).2.2.2.2.2, (word_or_four _).2.2.2.2.2,
    (word_clear_four _).2.2.2.2.2, ?_⟩
  unfold setFault
  split
  · rfl
  · exact (word_fault _ _).2.2.2.2.2

end Sys2Proof.Machine
end

