-- ==== Sys2Proof/Laws/Memory.lean ====
section
/-! SUPPORT. The frame buffer: reading after writing, and that every operation on it keeps its canonical form. -/

namespace Sys2Proof.Machine

/-- A byte written is the byte read, and every other byte is as before. -/
theorem Memory.read_write (m : Memory) (a k : Nat) (b : Byte) (h : m.Pairwise (fun x y => x.1 < y.1)) :
    (m.write a b).read k = if k = a then some b else m.read k := by
  induction m with
  | nil => simp [Memory.write, Memory.read]
  | cons x m ih =>
    obtain ⟨x, y⟩ := x
    have ih := ih h.of_cons
    simp only [Memory.write]
    split
    · simp [Memory.read]
    · split
      · subst a; simp only [Memory.read]; split <;> rfl
      · simp only [Memory.read, ih]
        by_cases hk : k = x
        · simp [hk, Ne.symm ‹¬a = x›]
        · simp [hk]

/-- Every entry after a write is the byte written or an entry from before. -/
theorem Memory.mem_write {m : Memory} {a : Nat} {b : Byte} {x : Host.Cell} (h : x ∈ m.write a b) :
    x = (a, b) ∨ x ∈ m := by
  induction m with
  | nil => simpa [Memory.write] using h
  | cons y m ih =>
    simp only [Memory.write] at h
    split at h
    · simpa using h
    · split at h
      · rcases List.mem_cons.1 h with h | h
        · exact .inl h
        · exact .inr (.tail _ h)
      · rcases List.mem_cons.1 h with h | h
        · exact .inr (h ▸ .head _)
        · exact (ih h).imp_right (.tail _)

/-- A write inside the buffer keeps the canonical form. -/
theorem Memory.wf_write {m : Memory} (a : Nat) (b : Byte) (h : m.wf) (ha : a < payloadLen) : (m.write a b).wf := by
  refine ⟨?_, fun x hx => ?_⟩
  · obtain ⟨h, -⟩ := h
    induction m with
    | nil => simp [Memory.write]
    | cons x m ih =>
      obtain ⟨x, y⟩ := x
      have hx := List.pairwise_cons.1 h
      simp only [Memory.write]
      split
      · refine List.pairwise_cons.2 ⟨fun z hz => ?_, h⟩
        rcases List.mem_cons.1 hz with rfl | hz
        · assumption
        · exact Nat.lt_trans ‹a < x› (hx.1 z hz)
      · split
        · subst a; exact List.pairwise_cons.2 ⟨hx.1, hx.2⟩
        · refine List.pairwise_cons.2 ⟨fun z hz => ?_, ih hx.2⟩
          rcases Memory.mem_write hz with rfl | hz
          · simp only; omega
          · exact hx.1 z hz
  · rcases Memory.mem_write hx with rfl | hx
    · exact ha
    · exact h.2 x hx

/-- Bytes stored inside the buffer keep the canonical form. -/
theorem storeBytes_wf (n : Nat) : ∀ (v : Payload) (m : Memory) (a : Nat), m.wf → a + n ≤ payloadLen →
    (storeBytes v m a n).wf := by
  induction n with
  | zero => intro v m a h _; exact h
  | succ n ih =>
    intro v m a h ha
    exact ih _ _ _ (Memory.wf_write a _ h (by omega)) (by omega)

/-- Which byte each offset holds after a store: byte `k - a` of the value inside, the old byte outside (20_memory.md R36). -/
theorem read_storeBytes (n : Nat) : ∀ (v : Payload) (m : Memory) (a k : Nat), m.wf → a + n ≤ payloadLen →
    (storeBytes v m a n).read k =
      if a ≤ k ∧ k < a + n then some ((v >>> (8 * (k - a))).setWidth 8) else m.read k := by
  induction n with
  | zero => intro v m a k _ _; rw [if_neg (by omega)]; rfl
  | succ n ih =>
    intro v m a k h ha
    simp only [storeBytes]
    rw [ih _ _ _ _ (Memory.wf_write a _ h (by omega)) (by omega), Memory.read_write _ _ _ _ h.1]
    by_cases hk : k = a
    · subst hk; simp
    · by_cases hin : a + 1 ≤ k ∧ k < a + 1 + n
      · rw [if_pos hin, if_pos (by omega), ← BitVec.shiftRight_add]
        congr 3
        omega
      · rw [if_neg hin, if_neg hk, if_neg (by omega)]

/-- Everything `memWrite` can do (20_memory.md R36). -/
theorem memWrite_cases (a : Nat) (n : AccessWidth) (v : Payload) (m : Memory) :
    (a + n.bytes ≤ payloadLen ∧ memWrite a n v m = .ok (storeBytes v m a n.bytes)) ∨
    (payloadLen < a + n.bytes ∧ memWrite a n v m = .error .frameAddressOutside) := by
  unfold memWrite
  split
  · exact .inl ⟨‹_›, rfl⟩
  · exact .inr ⟨by omega, rfl⟩

/-- `memWrite` keeps the canonical form. -/
theorem memWrite_wf {a : Nat} {n : AccessWidth} {v : Payload} {m m' : Memory} (h : m.wf)
    (hw : memWrite a n v m = .ok m') : m'.wf := by
  rcases memWrite_cases a n v m with ⟨ha, he⟩ | ⟨-, he⟩
  · rw [he, Except.ok.injEq] at hw
    exact hw ▸ storeBytes_wf _ _ _ _ h ha
  · rw [he] at hw; cases hw

/-- `loadBytes` answers a value exactly when every byte holds one. -/
theorem loadBytes_ok_iff (m : Memory) (n : Nat) : ∀ a,
    (∃ v, loadBytes m a n = .ok v) ↔ ∀ k, a ≤ k → k < a + n → (m.read k).isSome = true := by
  induction n with
  | zero => intro a; exact ⟨fun _ k h1 h2 => by omega, fun _ => ⟨0, rfl⟩⟩
  | succ n ih =>
    intro a
    have ih := ih (a + 1)
    simp only [loadBytes]
    constructor
    · rintro ⟨v, hv⟩ k h1 h2
      split at hv
      · rename_i b w hb hw
        by_cases hk : k = a
        · rw [hk, hb]; rfl
        · exact ih.1 ⟨w, hw⟩ k (by omega) (by omega)
      · cases hv
      · cases hv
    · intro h
      obtain ⟨b, hb⟩ := Option.isSome_iff_exists.1 (h a (by omega) (by omega))
      obtain ⟨w, hw⟩ := ih.2 fun k h1 h2 => h k (by omega) (by omega)
      exact ⟨_, by rw [hb, hw]⟩

/-- When a load does not answer a value it is because a byte holds none. -/
theorem loadBytes_error {m : Memory} {a n : Nat} {f : Fault} (h : loadBytes m a n = .error f) :
    f = .frameByteUnwritten := by
  induction n generalizing a f with
  | zero => cases h
  | succ n ih =>
    simp only [loadBytes] at h
    split at h
    · cases h
    · cases h; rfl
    · cases h; exact ih ‹_›

/-- Everything `memRead` can do (20_memory.md R36, 10_state.md R32). -/
theorem memRead_cases (a : Nat) (n : AccessWidth) (m : Memory) :
    (a + n.bytes ≤ payloadLen ∧ (∀ k, a ≤ k → k < a + n.bytes → (m.read k).isSome = true) ∧
      ∃ v, memRead a n m = .ok v) ∨
    (a + n.bytes ≤ payloadLen ∧ (∃ k, a ≤ k ∧ k < a + n.bytes ∧ m.read k = none) ∧
      memRead a n m = .error .frameByteUnwritten) ∨
    (payloadLen < a + n.bytes ∧ memRead a n m = .error .frameAddressOutside) := by
  unfold memRead
  split
  · rename_i hin
    cases hl : loadBytes m a n.bytes with
    | ok v => exact .inl ⟨hin, (loadBytes_ok_iff m _ a).1 ⟨v, hl⟩, v, rfl⟩
    | error f =>
      refine .inr (.inl ⟨hin, ?_, by rw [loadBytes_error hl]⟩)
      by_contra hno
      push Not at hno
      obtain ⟨v, hv⟩ := (loadBytes_ok_iff m _ a).2 fun k h1 h2 => Option.isSome_iff_ne_none.2 (hno k h1 h2)
      rw [hl] at hv; cases hv
  · exact .inr (.inr ⟨by omega, rfl⟩)

end Sys2Proof.Machine
end

