-- ==== Sys2Proof/Laws/Ops.lean ====
section
/-! SUPPORT. Everything each shared operation can do, said once, for the provers to cite instead of unfolding it. -/

namespace Sys2Proof.Machine

/-! ## Ports -/

/-- The ASEL line presents a code exactly when an answer is on it that the port can express (20_memory.md R41, R53). -/
theorem adcLine_eq_some_iff (s : State) (v : Nat) :
    adcLine s = some v ↔ s.adcAns = some v ∧ v ≤ s.cfg.maxCode := by
  unfold adcLine
  cases h : s.adcAns with
  | none => simp
  | some w =>
    simp only [Option.some.injEq]
    by_cases hw : w ≤ s.cfg.maxCode
    · rw [if_pos hw]
      constructor
      · intro e; rw [Option.some.injEq] at e; subst e; exact ⟨rfl, hw⟩
      · rintro ⟨rfl, -⟩; rfl
    · rw [if_neg hw]
      constructor
      · intro e; cases e
      · rintro ⟨rfl, h'⟩; exact absurd h' hw

/-- An analog read holds until the port presents a code, and then goes on with it. -/
theorem withAdcRead_cases (sel : TwoBits) (k : Nat → State → Result) (s : State) :
    (adcLine s = none ∧ withAdcRead sel k s = .next s) ∨
    (∃ v, s.adcAns = some v ∧ v ≤ s.cfg.maxCode ∧ withAdcRead sel k s = k v (takeAdc sel v s)) := by
  unfold withAdcRead
  split
  · exact .inl ⟨‹_›, rfl⟩
  · rename_i v h
    have := (adcLine_eq_some_iff s v).1 h
    exact .inr ⟨v, this.1, this.2, rfl⟩

/-- A strap read holds until the port presents a level, and then goes on with it. -/
theorem withStrapRead_cases (k : Bool → State → Result) (s : State) :
    (s.strapAns = none ∧ withStrapRead k s = .next s) ∨
    (∃ b, s.strapAns = some b ∧ withStrapRead k s = k b (takeStrap b s)) := by
  unfold withStrapRead
  split
  · exact .inl ⟨‹_›, rfl⟩
  · exact .inr ⟨_, ‹_›, rfl⟩

/-! ## Fault entry -/

/-- Fault entry always answers a next state: `SEQ` at `HALT`, the fault in `STATUS`, the event appended, all else as it was
(60_exceptions.md R128). -/
theorem raise_eq (f : Cause) (s : State) :
    raise f s = .next { s with seq := 0x3, status := (setFault f.code s).status,
                               history := s.history ++ [.fault f.code] } := by
  unfold raise goTo record setFault
  split <;> rfl

/-! ## The converter -/

/-- The four corners of a conversion (42_converter.md R82, R87, R91). -/
theorem reading_cases (r m d : Nat) :
    (d = 0 ∧ reading r m d = .ok (Config.zeroDivisorResult (r * m))) ∨
    (d ≠ 0 ∧ r * m / d < 2 ^ 16 ∧ reading r m d = .ok (BitVec.ofNat 16 (r * m / d))) ∨
    (d ≠ 0 ∧ 2 ^ 16 ≤ r * m / d ∧ reading r m d = .error .quotientTooWide) := by
  unfold reading toMv
  split
  · exact .inl ⟨‹_›, rfl⟩
  · split
    · exact .inr (.inl ⟨‹_›, ‹_›, rfl⟩)
    · exact .inr (.inr ⟨‹_›, by omega, rfl⟩)

/-- A conversion either writes one reading and moves on, or stops at a quotient too wide. -/
theorem convertChannel_cases (c : Channel) (i : Instr) (s : State) :
    (∃ v, reading (s.raw.get c) s.cfg.refMv s.calRaw = .ok v ∧
      convertChannel c i s = .next (goTo i (writeMv c v s))) ∨
    (reading (s.raw.get c) s.cfg.refMv s.calRaw = .error .quotientTooWide ∧
      convertChannel c i s = .fault .quotientTooWide) := by
  unfold convertChannel
  rcases reading_cases (s.raw.get c) s.cfg.refMv s.calRaw with ⟨-, h⟩ | ⟨-, -, h⟩ | ⟨-, -, h⟩
  · exact .inl ⟨_, h, by rw [h]⟩
  · exact .inl ⟨_, h, by rw [h]⟩
  · exact .inr ⟨h, by rw [h]⟩

/-! ## The frame -/

/-- `ENC`'s four writes are always inside the buffer (20_memory.md R38), and they are these. -/
theorem packReadings_eq (mv : PerChannel Millivolts) (m : Memory) :
    packReadings mv m = .ok (storeBytes 0x0000 (storeBytes (mv.ch2.setWidth 64)
      (storeBytes (mv.ch1.setWidth 64) (storeBytes (mv.ch0.setWidth 64) m 0 2) 2 2) 4 2) 6 2) := rfl

/-- `ENC` keeps the canonical form of the frame buffer. -/
theorem packReadings_wf {mv : PerChannel Millivolts} {m m' : Memory} (h : m.wf)
    (hp : packReadings mv m = .ok m') : m'.wf := by
  rw [packReadings_eq, Except.ok.injEq] at hp
  subst hp
  exact storeBytes_wf _ _ _ _ (storeBytes_wf _ _ _ _ (storeBytes_wf _ _ _ _ (storeBytes_wf _ _ _ _ h
    (by decide)) (by decide)) (by decide)) (by decide)

/-! ## The other agents -/

/-- Everything a timebase event can do: reload and tick, or count down (45_scheduler.md R116). -/
theorem timebaseEvent_cases (s : State) :
    (s.ptmr = 0 ∧ timebaseEvent s = timerTick { s with ptmr := s.cfg.periodCount - 1 }) ∨
    (s.ptmr ≠ 0 ∧ timebaseEvent s = { s with ptmr := s.ptmr - 1 }) := by
  unfold timebaseEvent
  split
  · exact .inl ⟨‹_›, rfl⟩
  · exact .inr ⟨‹_›, rfl⟩

/-- A completion clears `TX_BUSY` and is an event, or there was none to complete and nothing happens (20_memory.md R43, R54). -/
theorem busComplete_cases (s : State) :
    (s.txBusy = true ∧ busComplete s = { s with txBusy := false, history := s.history ++ [.busDone] }) ∨
    (s.txBusy = false ∧ busComplete s = s) := by
  unfold busComplete
  cases h : s.txBusy
  · exact .inr ⟨rfl, rfl⟩
  · exact .inl ⟨rfl, rfl⟩

/-- A response is for this process lifetime and does what its port does, or it is late and nothing happens
(70_reset_and_hazards.md R145). -/
theorem respond_cases (life : Nat) (k : State → Result) (s : State) :
    (life = s.lifetime ∧ respond life k s = k s) ∨ (life ≠ s.lifetime ∧ respond life k s = .next s) := by
  unfold respond
  split
  · exact .inl ⟨‹_›, rfl⟩
  · exact .inr ⟨‹_›, rfl⟩

/-- Asserting reset: the reset values, with the input asserted, one more process lifetime, and the outside's plan kept. -/
theorem resetInput_asserted (s : State) : resetInput true s =
    { State.resetWith s.cfg with resetIn := true, lifetime := s.lifetime + 1, env := s.env } := rfl

/-- Releasing reset changes the input alone. -/
theorem resetInput_released (s : State) : resetInput false s = { s with resetIn := false } := rfl

/-- While reset is asserted no request is outstanding (70_reset_and_hazards.md R142). -/
theorem requests_of_resetIn {s : State} (h : s.resetIn = true) : s.requests = [] := by
  simp only [State.requests, h, if_true]

/-! ## One instant and one step -/

/-- An instant beside a timebase event answers a next state exactly when what went before does. -/
theorem thenTimebase_next_iff (tb : Bool) (r : Result) (t : State) :
    thenTimebase tb r = .next t ↔ ∃ u, r = .next u ∧ t = if tb then timebaseEvent u else u := by
  unfold thenTimebase
  cases r with
  | next u => simp only [Host.Outcome.next.injEq, exists_eq_left']; exact eq_comm
  | fault f => simp
  | refused q => simp

/-- Everything one step can do: refuse the configuration, change the reset input, stand still in reset, or run the next act with
TIMER beside it. -/
theorem step_cases (s : State) :
    (s.cfg.wf = false ∧ step s = .refused .configNotWellFormed) ∨
    (s.cfg.wf = true ∧ ∃ x u, nextInstant s = (x, u) ∧
      ((∃ a, x = .reset a ∧ step s = .next (resetInput a u)) ∨
       (∃ a tb, x = .run a tb ∧ u.resetIn = true ∧ step s = .next u) ∨
       (∃ a tb, x = .run a tb ∧ u.resetIn = false ∧ step s = thenTimebase tb (runAct a u)))) := by
  unfold step
  cases hw : s.cfg.wf
  · exact .inl ⟨rfl, rfl⟩
  · refine .inr ⟨rfl, (nextInstant s).1, (nextInstant s).2, rfl, ?_⟩
    rw [if_pos rfl]
    cases hx : (nextInstant s).1 with
    | reset a => exact .inl ⟨a, rfl, rfl⟩
    | run a tb =>
      cases hr : (nextInstant s).2.resetIn
      · exact .inr (.inr ⟨a, tb, rfl, rfl, by simp [runInstant, hr]⟩)
      · exact .inr (.inl ⟨a, tb, rfl, rfl, by simp [runInstant, hr]⟩)

/-- Taking the next instant changes nothing but what is left of them. -/
theorem nextInstant_state (s : State) : (nextInstant s).2 = { s with env := s.env.tail } := by
  unfold nextInstant
  cases h : s.env with
  | nil => cases s; simp only at h; subst h; rfl
  | cons x rest => rfl

end Sys2Proof.Machine
end

