-- ==== Sys2Proof/Laws/PerInstr.lean ====
section
/-! SUPPORT. One lemma for each constructor of Instr, in the family CodeMap: the code of an operation reads back as that
operation, and a code is reserved exactly when its field `c` is 3 outside group 0b00 (spec/30_encoding.md R57, R58). -/

namespace Sys2Proof.Laws.CodeMap

/-- The code reads back, and the reserved codes are those with `c = 3` outside the control group. -/
def Statement (i : Instr) : Prop :=
  decode (encode i) = i ∧ (i.isOperation = false ↔ i.sub = 3 ∧ i.group ≠ 0)

theorem calref : Statement .calref := ⟨decode_encode _, by decide⟩
theorem resid : Statement .resid := ⟨decode_encode _, by decide⟩
theorem wtick : Statement .wtick := ⟨decode_encode _, by decide⟩
theorem halt : Statement .halt := ⟨decode_encode _, by decide⟩
theorem samp0 : Statement .samp0 := ⟨decode_encode _, by decide⟩
theorem samp1 : Statement .samp1 := ⟨decode_encode _, by decide⟩
theorem samp2 : Statement .samp2 := ⟨decode_encode _, by decide⟩
theorem reserved7 : Statement .reserved7 := ⟨decode_encode _, by decide⟩
theorem conv0 : Statement .conv0 := ⟨decode_encode _, by decide⟩
theorem conv1 : Statement .conv1 := ⟨decode_encode _, by decide⟩
theorem conv2 : Statement .conv2 := ⟨decode_encode _, by decide⟩
theorem reservedB : Statement .reservedB := ⟨decode_encode _, by decide⟩
theorem enc : Statement .enc := ⟨decode_encode _, by decide⟩
theorem txreq : Statement .txreq := ⟨decode_encode _, by decide⟩
theorem txwait : Statement .txwait := ⟨decode_encode _, by decide⟩
theorem reservedF : Statement .reservedF := ⟨decode_encode _, by decide⟩

end Sys2Proof.Laws.CodeMap
end

