-- ==== Sys2Proof/Tests/Slice0.lean ====
section
/-! SUPPORT. Tests whose expected results are the spec's own vectors (spec/95_test_vectors.md, its row names in the comments), the
smoke test of the checks, and for each statement a state and operands that meet its hypotheses. -/

namespace Sys2Proof.Tests

open Sys2Proof Sys2Proof.Machine

/-! ## States and readers -/

/-- What a field of the next state is, if there is one. -/
def after {α : Type} (r : Result) (f : State → α) : Option α :=
  match r with
  | .next t => some (f t)
  | .fault _ => none
  | .refused _ => none

/-- Why the machine stopped, if it did. -/
def stopped (r : Result) : Option Fault :=
  match r with
  | .next _ => none
  | .fault f => some f
  | .refused _ => none

/-- The machine after reset with one instant to come. -/
def fresh (x : Instant) : State := { State.reset with env := [x] }

/-- CORE's turn, nothing else. -/
def coreTurn : Instant := .run .core false

/-- A core that has started up as in program P1 and waits for a tick. -/
def ready : State :=
  { State.reset with
    seq := 0x2#4, status := 0x03#8, calRaw := 4017, devId := 0x111#11
    held := { Held.none with calRaw := true, devId := true } }

/-- A core about to take its first sample. -/
def sampling : State := { ready with seq := 0x4#4 }

/-- The frame of vector E1. -/
def frameE1 : Memory :=
  [(0, 0x66#8), (1, 0x02#8), (2, 0xCB#8), (3, 0x01#8), (4, 0x13#8), (5, 0x01#8), (6, 0x00#8), (7, 0x00#8)]

/-- A core whose frame is with the bus. -/
def inFlight : State :=
  { ready with
    seq := 0xE#4, txBusy := true, txid := 0x111#11, txbuf := frameE1
    held := { Held.none with calRaw := true, devId := true, txid := true } }

/-- A core halted after `CAL_ZERO`. -/
def halted : State := { State.reset with seq := 0x3#4, status := 0x18#8, history := [.adcRead 3 0, .fault 1] }

/-! ## The checks refuse an ill-formed term, one for each -/

theorem smoke_config_reference : Config.reference.wf = true := by decide
theorem smoke_config_a : (Config.wf { Config.reference with adcBits := 0 }) = false := by decide
theorem smoke_config_b : (Config.wf { Config.reference with refMv := 0 }) = false := by decide
theorem smoke_config_c : (Config.wf { Config.reference with wInt := 22 }) = false := by decide
theorem smoke_config_d_low : (Config.wf { Config.reference with plausMin := 4096 }) = false := by decide
theorem smoke_config_d_high : (Config.wf { Config.reference with plausMax := 4096 }) = false := by decide
theorem smoke_config_e : (Config.wf { Config.reference with plausMin := 76 }) = false := by decide
theorem smoke_config_f : (Config.wf { Config.reference with periodCount := 0 }) = false := by decide
theorem smoke_reserved_is_no_operation :
    Instr.isOperation .reserved7 = false ∧ Instr.isOperation .reservedB = false ∧ Instr.isOperation .reservedF = false := by
  decide
/-- The smallest admissible `PLAUS_MIN` of other configurations (2.1). -/
theorem test_config_other_resolutions :
    (Config.wf { Config.reference with adcBits := 10, plausMin := 20, plausMax := 1023 }) = true ∧
    (Config.wf { Config.reference with adcBits := 10, plausMin := 19, plausMax := 1023 }) = false ∧
    (Config.wf { Config.reference with refMv := 1999, plausMin := 125 }) = true ∧
    (Config.wf { Config.reference with refMv := 1999, plausMin := 124 }) = false := by decide

/-! ## Decoding: the words of 30_encoding.md R57, written out bit by bit -/

theorem test_decode_startup : decode 0b0000#4 = .calref ∧ decode 0b0001#4 = .resid := by decide
theorem test_decode_scheduler : decode 0b0010#4 = .wtick ∧ decode 0b0011#4 = .halt := by decide
theorem test_decode_sampler : decode 0b0100#4 = .samp0 ∧ decode 0b0101#4 = .samp1 ∧ decode 0b0110#4 = .samp2 := by decide
theorem test_decode_converter : decode 0b1000#4 = .conv0 ∧ decode 0b1001#4 = .conv1 ∧ decode 0b1010#4 = .conv2 := by decide
theorem test_decode_frame : decode 0b1100#4 = .enc ∧ decode 0b1101#4 = .txreq ∧ decode 0b1110#4 = .txwait := by decide
theorem test_decode_reserved :
    decode 0b0111#4 = .reserved7 ∧ decode 0b1011#4 = .reservedB ∧ decode 0b1111#4 = .reservedF := by decide
theorem test_decode_rejects_wide : decodeTableWord 8 0x10 = none ∧ decodeTableWord 8 0xE = some .txwait := by decide

/-! ## One step each -/

/-- A1 and A5: the example code, and `PLAUS_MIN` inclusive. -/
theorem test_calref_latches :
    after (step (fresh (.run (.adcAnswer 0 4017) false))) (fun t => (t.calRaw, t.statusOut, t.seq)) = some (4017, 0x01#8, 0x1#4) ∧
    after (step (fresh (.run (.adcAnswer 0 77) false))) (fun t => (t.calRaw, t.statusOut, t.seq)) = some (77, 0x01#8, 0x1#4) := by
  decide
/-- A2 and A4, H1: zero is tested first, `PLAUS_MIN - 1` is implausible. -/
theorem test_calref_faults :
    after (step (fresh (.run (.adcAnswer 0 0) false))) (fun t => (t.statusOut, t.seq, t.history)) =
      some (0x18#8, 0x3#4, [.adcRead 3 0, .fault 1]) ∧
    after (step (fresh (.run (.adcAnswer 0 76) false))) (fun t => (t.statusOut, t.seq, t.history)) =
      some (0x28#8, 0x3#4, [.adcRead 3 76, .fault 2]) := by
  decide
/-- D1 and D2: the high strap gives the lower identity. -/
theorem test_resid_polarity :
    after (exec .resid { State.reset with status := 0x01#8, strapAns := some true }) (fun t => (t.devId, t.statusOut, t.seq)) =
      some (0x110#11, 0x03#8, 0x2#4) ∧
    after (exec .resid { State.reset with status := 0x01#8, strapAns := some false }) (fun t => (t.devId, t.statusOut, t.seq)) =
      some (0x111#11, 0x03#8, 0x2#4) := by
  decide
/-- D4 and D5: an identity of 12 bits faults, but only the selected one is tested. -/
theorem test_resid_invalid :
    after (exec .resid { State.reset with cfg := { Config.reference with idStrapLow := 0x800 }, status := 0x01#8, strapAns := some false })
      (fun t => (t.statusOut, t.seq)) = some (0x39#8, 0x3#4) ∧
    after (exec .resid { State.reset with cfg := { Config.reference with idStrapLow := 0x800 }, status := 0x01#8, strapAns := some true })
      (fun t => (t.devId, t.seq)) = some (0x110#11, 0x2#4) := by
  decide
/-- G1 and G3. -/
theorem test_wtick_consumes :
    after (exec .wtick ready) (fun t => t) = some ready ∧
    after (exec .wtick { ready with status := 0x07#8 }) (fun t => (t.statusOut, t.seq)) = some (0x03#8, 0x4#4) := by
  decide
/-- G8: on one instant set wins. -/
theorem test_wtick_set_wins :
    after (step { ready with status := 0x07#8, env := [.run .core true] }) (fun t => (t.seq, t.tickPend)) =
      some (0x4#4, true) := by
  decide
/-- G5 and G6. -/
theorem test_halt_holds :
    after (step { halted with env := [coreTurn] }) (fun t => (t.seq, t.statusOut)) = some (0x3#4, 0x18#8) ∧
    after (step { halted with env := [.run .idle true] }) (fun t => (t.seq, t.statusOut)) = some (0x3#4, 0x1C#8) := by
  decide
/-- B1. -/
theorem test_samp0_stores :
    after (exec .samp0 { sampling with adcAns := some 2008 }) (fun t => (t.raw.ch0, t.seq, t.status)) =
      some (2008, 0x5#4, 0x03#8) := by
  decide
/-- B2 and B6. -/
theorem test_samp1_stores_or_holds :
    after (exec .samp1 { ready with seq := 0x5#4, adcAns := some 1500 }) (fun t => (t.raw.ch1, t.seq)) = some (1500, 0x6#4) ∧
    after (exec .samp1 { ready with seq := 0x5#4 }) (fun t => (t.raw.ch1, t.seq)) = some (0, 0x5#4) := by
  decide
/-- B5: a rail reading passes through. -/
theorem test_samp2_stores_rail :
    after (exec .samp2 { ready with adcAns := some 4095 }) (fun t => (t.raw.ch2, t.seq)) = some (4095, 0x8#4) := by
  decide
/-- C1 (S6 corrected: 614, not 615) and C2. -/
theorem test_conv0_truncates :
    after (exec .conv0 { ready with raw := ⟨2008, 0, 0⟩ }) (fun t => (t.mv.ch0, t.seq)) = some (0x0266#16, 0x9#4) ∧
    after (exec .conv0 { ready with raw := ⟨2009, 0, 0⟩ }) (fun t => (t.mv.ch0, t.seq)) = some (0x0267#16, 0x9#4) := by
  decide
/-- C11: the largest reachable reading. -/
theorem test_conv1_largest :
    after (exec .conv1 { ready with calRaw := 77, raw := ⟨0, 4095, 0⟩ }) (fun t => (t.mv.ch1, t.seq)) =
      some (0xFF85#16, 0xA#4) := by
  decide
/-- C4: truncated, not rounded to 276. -/
theorem test_conv2_truncates :
    after (exec .conv2 { ready with raw := ⟨0, 0, 900⟩ }) (fun t => (t.mv.ch2, t.seq)) = some (0x0113#16, 0xC#4) := by
  decide
/-- 2.3, not admitted: code 76 with sample 4050 would give 65546. -/
theorem test_conv0_too_wide :
    stopped (exec .conv0 { ready with calRaw := 76, raw := ⟨4050, 0, 0⟩ }) = some .quotientTooWide := by
  decide
/-- E1. -/
theorem test_enc_frame :
    after (exec .enc { ready with mv := ⟨614, 459, 275⟩ }) (fun t => (t.txid, t.txbuf, t.seq)) =
      some (0x111#11, frameE1, 0xD#4) := by
  decide
/-- E4: the low byte is always first, and the old frame is gone. -/
theorem test_enc_byte_order :
    after (exec .enc { inFlight with mv := ⟨0x00FF#16, 0xFF00#16, 0x1234#16⟩ }) (fun t => t.txbuf.map Prod.snd) =
      some [0xFF#8, 0x00#8, 0x00#8, 0xFF#8, 0x34#8, 0x12#8, 0x00#8, 0x00#8] := by
  decide
/-- F1, with the 64-bit view of E1. -/
theorem test_txreq_hands_over :
    after (exec .txreq { inFlight with seq := 0xD#4, txBusy := false }) (fun t => (t.seq, t.txBusy, t.history)) =
      some (0xE#4, true, [.busTransmit 0x111#11 0x0000011301CB0266#64]) := by
  decide
/-- 10_state.md R32. -/
theorem test_txreq_unwritten : stopped (exec .txreq ready) = some .frameByteUnwritten := by decide
/-- F2 and F4. -/
theorem test_txwait_holds_then_idles :
    after (exec .txwait inFlight) (fun t => t) = some inFlight ∧
    after (exec .txwait { inFlight with txBusy := false }) (fun t => t.seq) = some 0x2#4 := by
  decide
/-- H4. -/
theorem test_reserved7_faults :
    after (step { ready with seq := 0x7#4, env := [coreTurn] }) (fun t => (t.statusOut, t.seq, t.history)) =
      some (0x4B#8, 0x3#4, [.fault 4]) := by
  decide
/-- H5. -/
theorem test_reservedB_faults :
    after (step { ready with seq := 0xB#4, env := [coreTurn] }) (fun t => (t.statusOut, t.seq)) = some (0x4B#8, 0x3#4) := by
  decide
/-- H5. -/
theorem test_reservedF_faults :
    after (step { ready with seq := 0xF#4, env := [coreTurn] }) (fun t => (t.statusOut, t.seq)) = some (0x4B#8, 0x3#4) := by
  decide
/-- G4: ticks merge. -/
theorem test_tick_merges :
    after (step { ready with seq := 0x8#4, status := 0x07#8, env := [.run .idle true] }) (fun t => (t.seq, t.statusOut)) =
      some (0x8#4, 0x07#8) := by
  decide
/-- G7: with `PERIOD_COUNT = 4` the counter goes 3, 2, 1, 0 and reloads with a tick. -/
theorem test_period_of_four :
    [3, 2, 1, 0].map (fun p => let t := timebaseEvent { ready with cfg := { Config.reference with periodCount := 4 }, ptmr := p }; (t.ptmr, t.tickPend)) =
      [(2, false), (1, false), (0, false), (3, true)] := by
  decide
/-- F3 and F6. -/
theorem test_bus_complete :
    after (step { inFlight with env := [.run (.busDone 0) false] }) (fun t => (t.txBusy, t.seq, t.history)) =
      some (false, 0xE#4, [.busDone]) ∧
    after (step { ready with env := [.run (.busDone 0) false] }) (fun t => (t.txBusy, t.history)) = some (false, []) := by
  decide
/-- I1: reset forgets the request and the frame. -/
theorem test_reset_forgets :
    after (step { inFlight with env := [.reset true] }) (fun t => (t.seq, t.status, t.txBusy)) = some (0x0#4, 0x00#8, false) ∧
    after (step { inFlight with env := [.reset true] }) (fun t => t.txbuf.map Prod.fst) = some [] := by
  decide
/-- I3: a completion that comes after the reset changes nothing. -/
theorem test_late_completion_ignored :
    after (step { State.reset with env := [.run (.busDone 0) false] }) (fun t => t) = some State.reset := by
  decide
/-- 70_reset_and_hazards.md R145: an analog answer to a request made before the reset is not taken by the `CALREF` that waits after it, and
a completion of the abandoned transmit does not complete a new one. -/
theorem test_late_answer_ignored :
    after (step { State.reset with lifetime := 1, env := [.run (.adcAnswer 0 4017) false] }) (fun t => (t.seq, t.calRaw, t.history)) =
      some (0x0#4, 0, []) ∧
    after (step { inFlight with lifetime := 1, env := [.run (.busDone 0) false] }) (fun t => (t.txBusy, t.history)) =
      some (true, []) := by
  decide
/-- 70_reset_and_hazards.md R142, R144. -/
theorem test_reset_release :
    State.requests { State.reset with resetIn := true } = [] ∧
    after (step { State.reset with resetIn := true, env := [.reset false] }) (fun t => (t.resetIn, t.requests)) =
      some (false, [.asel 3]) := by
  decide
/-- The very next step performs the operation whose code is stored. -/
theorem test_withFetchWord :
    after (step ({ halted with resetIn := true }.withFetchWord 8 0xE)) (fun t => t.seq) = some 0x2#4 := by
  decide

/-! ## Witnesses: the hypotheses of the statements can be met -/

/-- A state with a canonical description of its stage meets the invariant. -/
theorem ready_inv : ready.Inv where
  cfg_wf := by decide
  txbuf_wf := by decide
  reserved_zero := by decide
  cause_zero := by decide
  ptmr_range := by decide
  raw_range := by intro c; cases c <;> decide
  cal_range := by decide
  cal_plausible := by decide
  id_legal := by decide
  lines_clear := by decide
  at_stage := by
    simp only [State.stage, show decode ready.seq = .wtick by decide, State.running]
    decide

theorem sampling_inv : sampling.Inv where
  cfg_wf := by decide
  txbuf_wf := by decide
  reserved_zero := by decide
  cause_zero := by decide
  ptmr_range := by decide
  raw_range := by intro c; cases c <;> decide
  cal_range := by decide
  cal_plausible := by decide
  id_legal := by decide
  lines_clear := by decide
  at_stage := by
    simp only [State.stage, show decode sampling.seq = .samp0 by decide, State.running]
    decide

theorem inFlight_inv : inFlight.Inv where
  cfg_wf := by decide
  txbuf_wf := by decide
  reserved_zero := by decide
  cause_zero := by decide
  ptmr_range := by decide
  raw_range := by intro c; cases c <;> decide
  cal_range := by decide
  cal_plausible := by decide
  id_legal := by decide
  lines_clear := by decide
  at_stage := by
    simp only [State.stage, show decode inFlight.seq = .txwait by decide, State.running]
    decide

theorem halted_inv : halted.Inv where
  cfg_wf := by decide
  txbuf_wf := by decide
  reserved_zero := by decide
  cause_zero := by decide
  ptmr_range := by decide
  raw_range := by intro c; cases c <;> decide
  cal_range := by decide
  cal_plausible := by decide
  id_legal := by decide
  lines_clear := by decide
  at_stage := by
    simp only [State.stage, show decode halted.seq = .halt by decide]
    decide

/-- The invariant's environment may be replaced. -/
theorem inv_env {s : State} (h : s.Inv) (e : List Instant) : State.Inv { s with env := e } :=
  ⟨h.cfg_wf, h.txbuf_wf, h.reserved_zero, h.cause_zero, h.ptmr_range, h.raw_range, h.cal_range, h.cal_plausible,
    h.id_legal, h.lines_clear, h.at_stage⟩

/-- A next state exists whenever a step of the test above has one. -/
theorem next_of_after {α : Type} {r : Result} {f : State → α} (h : (after r f).isSome = true) : ∃ t, r = .next t := by
  cases r with
  | next t => exact ⟨t, rfl⟩
  | fault _ => cases h
  | refused _ => cases h

/-- No answer, an answer of 0, the codes at both edges of the window, and codes just outside it. -/
theorem witness_CalrefOutcomes :
    State.reset.adcAns = none ∧
    (∀ v ∈ [0, 1, 76, 77, 4095], v ≤ State.reset.cfg.maxCode ∧ (State.adcAns { State.reset with adcAns := some v }) = some v) ∧
    (∃ s : State, ∃ v, s.adcAns = some v ∧ v ≤ s.cfg.maxCode ∧ v ≠ 0 ∧ s.cfg.plausMax < v) ∧
    (∃ s : State, ∃ v, s.adcAns = some v ∧ v ≤ s.cfg.maxCode ∧ v ≠ 0 ∧ v < s.cfg.plausMin) ∧
    (∃ s : State, ∃ v, s.adcAns = some v ∧ v ≤ s.cfg.maxCode ∧ v ≠ 0 ∧ s.cfg.plausMin ≤ v ∧ v ≤ s.cfg.plausMax) :=
  ⟨by decide, by decide,
   ⟨{ State.reset with cfg := { Config.reference with plausMin := 100, plausMax := 4000 }, adcAns := some 4001 }, 4001, by decide⟩,
   ⟨{ State.reset with adcAns := some 76 }, 76, by decide⟩, ⟨{ State.reset with adcAns := some 77 }, 77, by decide⟩⟩

/-- No answer; the largest identity that fits; the smallest that does not. -/
theorem witness_ResidOutcomes :
    State.reset.strapAns = none ∧
    (∃ s : State, ∃ b k, s.strapAns = some b ∧ k = (if b = true then s.cfg.idStrapHigh else s.cfg.idStrapLow) ∧ k = 0x7FF) ∧
    (∃ s : State, ∃ b k, s.strapAns = some b ∧ k = (if b = true then s.cfg.idStrapHigh else s.cfg.idStrapLow) ∧ k = 0x800) :=
  ⟨by decide,
   ⟨{ State.reset with cfg := { Config.reference with idStrapLow := 0x7FF }, strapAns := some false }, false, 0x7FF, by decide⟩,
   ⟨{ State.reset with cfg := { Config.reference with idStrapHigh := 0x800 }, strapAns := some true }, true, 0x800, by decide⟩⟩

theorem witness_WtickOutcomes : ready.tickPend = false ∧ (State.tickPend { ready with status := 0x07#8 }) = true := by decide

/-- No answer, and both rail readings. -/
theorem witness_SampOutcomes :
    sampling.adcAns = none ∧ (∀ v ∈ [0, 4095], v ≤ sampling.cfg.maxCode ∧ (State.adcAns { sampling with adcAns := some v }) = some v) := by
  decide

/-- The largest quotient that fits 16 bits in each channel, at the smallest divisor that reaches it. -/
theorem witness_ConvOutcomes :
    ∃ s : State, s.calRaw ≠ 0 ∧ s.raw.ch0 * s.cfg.refMv / s.calRaw < 2 ^ 16 ∧ s.raw.ch1 * s.cfg.refMv / s.calRaw = 2 ^ 16 - 1 ∧
      s.raw.ch2 * s.cfg.refMv / s.calRaw < 2 ^ 16 :=
  ⟨{ ready with cfg := { Config.reference with refMv := 1 }, calRaw := 1, raw := ⟨0, 65535, 1⟩ }, by decide⟩

theorem witness_ConvZeroDivisorCompletes : State.reset.calRaw = 0 := by decide

/-- The smallest quotient that does not fit, in each channel. -/
theorem witness_ConvTooWideStops :
    ∃ s : State, s.calRaw ≠ 0 ∧ 2 ^ 16 ≤ s.raw.ch0 * s.cfg.refMv / s.calRaw ∧ 2 ^ 16 ≤ s.raw.ch1 * s.cfg.refMv / s.calRaw ∧
      2 ^ 16 ≤ s.raw.ch2 * s.cfg.refMv / s.calRaw :=
  ⟨{ ready with cfg := { Config.reference with refMv := 1 }, calRaw := 1, raw := ⟨65536, 65536, 65536⟩ }, by decide⟩

/-- An empty and a full buffer are canonical. -/
theorem witness_EncWritesTheFrame : ready.txbuf.wf ∧ inFlight.txbuf.wf := by decide

theorem witness_EncRoundTrip : inFlight.txbuf.wf ∧ ∃ t, exec .enc inFlight = .next t :=
  ⟨by decide, next_of_after (f := fun t => t.seq) (by decide)⟩

theorem witness_TxreqHandsTheFrameOver : ∀ a < 8, ∃ b, inFlight.txbuf.read a = some b := by
  intro a ha
  exact Option.isSome_iff_exists.1 ((by decide : ∀ a < 8, (inFlight.txbuf.read a).isSome = true) a ha)

/-- Every byte but the last is written, and the last is not. -/
theorem witness_TxreqOnUnwrittenByteStops :
    ∃ a < 8, (State.txbuf { inFlight with txbuf := frameE1.take 7 }).read a = none := ⟨7, by decide⟩

theorem witness_TxwaitOutcomes : inFlight.txBusy = true ∧ (State.txBusy { inFlight with txBusy := false }) = false := by decide

/-- A write that ends at the buffer's edge, and one that passes it. -/
theorem witness_FrameWriteStoresLittleEndian :
    Memory.wf frameE1 ∧ 6 + AccessWidth.two.bytes ≤ 8 ∧ 0 + AccessWidth.eight.bytes ≤ 8 ∧ 8 < 7 + AccessWidth.two.bytes := by decide

theorem witness_FrameReadIsLittleEndian :
    6 + AccessWidth.two.bytes ≤ 8 ∧ (∀ k < AccessWidth.two.bytes, (Memory.read frameE1 (6 + k)).isSome = true) ∧
    (∃ v, memRead 6 .two frameE1 = .ok v) ∧ 8 < 8 + AccessWidth.one.bytes :=
  ⟨by decide, by decide, ⟨0, by decide⟩, by decide⟩

/-- A fatal code, and an identity that does not fit, each with its answer on the line. -/
theorem witness_FaultEntryWrites :
    (∃ s : State, s.adcAns = some 76 ∧ 76 ≤ s.cfg.maxCode ∧ 76 < s.cfg.plausMin) ∧
    (∃ s : State, s.strapAns = some false ∧ 0x7FF < s.cfg.idStrapLow) :=
  ⟨⟨{ State.reset with adcAns := some 76 }, by decide⟩,
   ⟨{ State.reset with cfg := { Config.reference with idStrapLow := 0x800 }, strapAns := some false }, by decide⟩⟩

theorem witness_TimebaseCountsAndTicks : ready.ptmr = 0 ∧ (State.ptmr { ready with ptmr := 1 }) ≠ 0 := by decide

/-- A count at both ends of its range. -/
theorem witness_TickEveryPeriodCountEvents :
    (∀ p ∈ [0, 3], ∃ s : State, s.ptmr = p ∧ s.ptmr < s.cfg.periodCount ∧ s.cfg.periodCount = 4) ∧ 1 ≤ Config.reference.periodCount := by
  refine ⟨fun p hp => ⟨{ ready with cfg := { Config.reference with periodCount := 4 }, ptmr := p }, rfl, ?_, rfl⟩, by decide⟩
  revert p; decide

theorem witness_TicksMerge : (State.tickPend { ready with status := 0x07#8 }) = true := by decide

theorem witness_SimultaneousSetWins :
    ∃ s : State, s.cfg.wf = true ∧ s.resetIn = false ∧ s.seq = 0x2#4 ∧ s.tickPend = true ∧ s.ptmr = 0 ∧
      s.env = [.run .core true] :=
  ⟨{ ready with status := 0x07#8, env := [.run .core true] }, by decide⟩

/-- The bus completing; a tick alone, at both ends of the count; an awaited answer with a timebase event beside it. -/
theorem witness_StepPerformsTheOtherAgents :
    inFlight.cfg.wf = true ∧ inFlight.resetIn = false ∧ inFlight.txBusy = true ∧
    (State.env { inFlight with env := [.run (.busDone 0) false] }) = [.run (.busDone inFlight.lifetime) false] ∧
    inFlight.ptmr = 0 ∧ (State.ptmr { inFlight with ptmr := 1 }) ≠ 0 ∧
    ∃ t, step { sampling with env := [.run (.adcAnswer 0 900) false] } = .next t :=
  ⟨by decide, by decide, by decide, by decide, by decide, by decide, next_of_after (f := fun t => t.seq) (by decide)⟩

/-- From a halted core, with the codes at both edges of the window. -/
theorem witness_ReleaseLetsTheCoreStart :
    ∀ v ∈ [77, 4095], ∃ s : State, s.cfg.wf = true ∧ s.faulted = true ∧
      s.env = [.reset true, .reset false, .run (.adcAnswer (s.lifetime + 1) v) false] ∧ s.cfg.plausMin ≤ v ∧ v ≤ s.cfg.plausMax := by
  intro v hv
  refine ⟨{ halted with env := [.reset true, .reset false, .run (.adcAnswer 1 v) false] }, smoke_config_reference,
    (by decide : halted.faulted = true), rfl, ?_⟩
  revert v; decide

/-- An answer from before the reset with a later one of the same port waiting, and a completion from before it with a transmit
outstanding. -/
theorem witness_LateAnswersAreIgnored :
    (∃ s : State, s.cfg.wf = true ∧ s.seq = 0x0#4 ∧ s.resetIn = false ∧ 0 ≠ s.lifetime ∧ s.env = [.run (.adcAnswer 0 4017) false]) ∧
    (∃ s : State, s.cfg.wf = true ∧ s.txBusy = true ∧ 0 ≠ s.lifetime ∧ s.env = [.run (.busDone 0) false]) ∧
    (∃ s : State, s.cfg.wf = true ∧ s.seq = 0x4#4 ∧ s.env = [.reset true, .reset false, .run (.adcAnswer s.lifetime 4017) false]) :=
  ⟨⟨{ State.reset with lifetime := 1, env := [.run (.adcAnswer 0 4017) false] }, by decide⟩,
   ⟨{ inFlight with lifetime := 1, env := [.run (.busDone 0) false] }, by decide⟩,
   ⟨{ sampling with env := [.reset true, .reset false, .run (.adcAnswer 0 4017) false] }, by decide⟩⟩

theorem witness_BusCompletes : inFlight.txBusy = true ∧ ready.txBusy = false := by decide

/-- An analog answer, a strap answer and a completion nobody asked for. -/
theorem witness_SpuriousResponsesIgnored :
    ready.cfg.wf = true ∧ ready.resetIn = false ∧
    (ready.seq ≠ 0x0#4 ∧ ready.seq ≠ 0x4#4 ∧ ready.seq ≠ 0x5#4 ∧ ready.seq ≠ 0x6#4) ∧ ready.seq ≠ 0x1#4 ∧
    ready.txBusy = false ∧ (State.env { ready with env := [.run (.adcAnswer 0 5) false] }) = [.run (.adcAnswer 0 5) false] := by decide

theorem witness_ResetRestoresEverything :
    ∃ s : State, s.cfg.wf = true ∧ s.txBusy = true ∧ s.env = [.reset true] := ⟨{ inFlight with env := [.reset true] }, by decide⟩

theorem witness_NothingRunsWhileInReset :
    ∃ s : State, s.cfg.wf = true ∧ s.resetIn = true ∧ (∀ x ∈ s.env.head?, NoReset x) ∧ s.env ≠ [] :=
  ⟨{ State.reset with resetIn := true, env := [.run (.adcAnswer 0 4017) true] }, by decide, by decide,
   by intro x hx a; simp only [List.head?_cons, Option.mem_def, Option.some.injEq] at hx; subst hx; nofun, by decide⟩

/-- Nothing listed; CORE next; a tick beside it; each operation that waits for an analog answer; the strap. -/
theorem witness_StepRunsTheSequencedOperation :
    ready.cfg.wf = true ∧ ready.resetIn = false ∧ ready.env = [] ∧
    (State.env { ready with env := [.run .core false] }) = [.run .core false] ∧
    (∃ t, exec (decode ready.seq) { ready with env := [] } = .next t) ∧
    (∀ c ∈ [0x0#4, 0x4#4, 0x5#4, 0x6#4], (State.seq { ready with seq := c }) = c) ∧ 4095 ≤ ready.cfg.maxCode ∧
    (State.seq { ready with seq := 0x1#4 }) = 0x1#4 :=
  ⟨by decide, by decide, by decide, by decide, next_of_after (f := fun t => t.seq) (by decide), by decide, by decide, by decide⟩

theorem witness_IllFormedConfigRefused :
    (State.cfg { ready with cfg := { Config.reference with plausMin := 76 } }).wf = false := by decide

/-- The smallest number that is no code. -/
theorem witness_CodesDecodeAsMapped : 16 ≤ 16 := by decide

theorem witness_SuccessorTable : ∃ t, exec (decode inFlight.seq) inFlight = .next t :=
  next_of_after (f := fun t => t.seq) (by decide)

theorem witness_OperationsWriteOnlyTheirOwn : ∃ t, exec .enc ready = .next t :=
  next_of_after (f := fun t => t.seq) (by decide)

theorem witness_IdleAndActiveAreFunctionsOfSeq :
    decode ready.seq = .wtick ∧ decode sampling.seq = .samp0 ∧ decode halted.seq = .halt ∧
    decode State.reset.seq = .calref := by decide

/-- Idle held, Idle left, Active left. -/
theorem witness_SchedulerTransitions :
    ready.idle = true ∧ inFlight.active = true ∧
    (∃ t, exec (decode (State.seq { ready with status := 0x07#8 })) { ready with status := 0x07#8 } = .next t) ∧
    (∃ t, exec (decode (State.seq { inFlight with txBusy := false })) { inFlight with txBusy := false } = .next t) :=
  ⟨by decide, by decide, next_of_after (f := fun t => t.seq) (by decide), next_of_after (f := fun t => t.seq) (by decide)⟩

theorem witness_ConversionIdentities : (1 : Nat) ≠ 0 ∧ (1 : Nat) ≤ 2 := by decide

theorem witness_ReadingsAreMonotonic :
    ready.Inv ∧ ready.calValid = true ∧ ready.raw.get .ch0 ≤ ready.raw.get .ch0 ∧ (1 : Nat) ≠ 0 :=
  ⟨ready_inv, by decide, by decide, by decide⟩

theorem witness_NarrowingIsLossless : ready.Inv ∧ ready.calValid = true ∧ ready.cfg = Config.reference :=
  ⟨ready_inv, by decide, rfl⟩

theorem witness_StepKeepsTheInvariant : sampling.Inv ∧ ∃ t, step sampling = .next t :=
  ⟨sampling_inv, next_of_after (f := fun t => t.seq) (by decide)⟩

theorem witness_InvariantStatesAlwaysStep : ready.Inv := ready_inv

theorem witness_NoUnwrittenRegisterIsRead : inFlight.Inv := inFlight_inv

theorem witness_HistoryIsTheTelemetryNodes : halted.Observed ∧ ∃ t, step halted = .next t :=
  ⟨⟨halted_inv, by decide, by simp only [State.cycleData, show decode halted.seq = .halt by decide]⟩,
   next_of_after (f := fun t => t.seq) (by decide)⟩

theorem witness_CyclesNeverExceedTicks : halted.TickBudget ∧ ∃ t, step halted = .next t :=
  ⟨by unfold State.TickBudget; decide, next_of_after (f := fun t => t.seq) (by decide)⟩

theorem witness_CalibrationAndIdentityAreImmutable :
    ready.Inv ∧ (∀ x ∈ ready.env.head?, NoReset x) ∧ ready.calValid = true ∧ ready.idValid = true ∧ ∃ t, step ready = .next t :=
  ⟨ready_inv, (by intro x hx; cases hx), by decide, by decide, next_of_after (f := fun t => t.seq) (by decide)⟩

theorem witness_FrameStableInFlight :
    inFlight.Inv ∧ inFlight.txBusy = true ∧ (∀ x ∈ inFlight.env.head?, NoReset x) ∧ ∃ t, step inFlight = .next t :=
  ⟨inFlight_inv, by decide, (by intro x hx; cases hx), next_of_after (f := fun t => t.seq) (by decide)⟩

theorem witness_OneRequestOutstanding : inFlight.Inv ∧ inFlight.requests = [.bustx] := ⟨inFlight_inv, by decide⟩

theorem witness_StartupIsOneShot :
    ready.Inv ∧ (∀ x ∈ ready.env.head?, NoReset x) ∧ ∃ t, step ready = .next t :=
  ⟨ready_inv, (by intro x hx; cases hx), next_of_after (f := fun t => t.seq) (by decide)⟩

theorem witness_FaultIsForever :
    halted.Inv ∧ halted.faulted = true ∧ (∀ x ∈ halted.env, NoReset x) ∧ ∃ t, Host.Core.run Sys2Proof.core 3 halted = .next t :=
  ⟨halted_inv, by decide, (by intro x hx; cases hx), next_of_after (r := Host.Core.run Sys2Proof.core 3 halted) (f := fun t => t.seq) (by decide)⟩

theorem witness_DeadBusHoldsTheCore :
    inFlight.seq = 0xE#4 ∧ inFlight.txBusy = true ∧ (∀ x ∈ inFlight.env, NoReset x ∧ NoBusDone x) ∧
    ∃ t, Host.Core.run Sys2Proof.core 3 inFlight = .next t :=
  ⟨by decide, by decide, (by intro x hx; cases hx), next_of_after (r := Host.Core.run Sys2Proof.core 3 inFlight) (f := fun t => t.seq) (by decide)⟩

theorem witness_WakeEventsOnlyLatch : (State.tickPend { ready with status := 0x07#8 }) = true := by decide

/-- The hypotheses of a whole cycle, with samples at both rails. -/
theorem witness_CycleTransmitsItsOwnSamples :
    ∃ s : State, s.Inv ∧ s.resetIn = false ∧ s.seq = 0x4#4 ∧ 4095 ≤ s.cfg.maxCode ∧ 0 ≤ s.cfg.maxCode ∧
      s.env = [.run (.adcAnswer 0 4095) false, .run (.adcAnswer 0 0) false, .run (.adcAnswer 0 900) false,
        .run .core false, .run .core false, .run .core false, .run .core false, .run .core false] ++ [] :=
  ⟨_, inv_env sampling_inv _, rfl, rfl, by decide, Nat.zero_le _, rfl⟩

theorem witness_StatusOutputReadsReservedAsZero : halted.Inv := halted_inv

end Sys2Proof.Tests
end

section
/-! PROOFS. What a well-formed configuration is, and that a step refuses any other (spec/00_scope.md R7). -/

namespace Sys2Proof

/-- Check (e) gives the lower bound (4095 * 1230 = 5036850 lies between 2^16 * 76 and 2^16 * 77) and check (d) the upper one. -/
theorem Config.reference_plausMin_wf_iff (p : Nat) :
    Config.wf { Config.reference with plausMin := p } = true ↔ 77 ≤ p ∧ p ≤ 4095 := by
  have hmax : Config.maxCode { Config.reference with plausMin := p } = 4095 := Config.reference_maxCode
  rw [Config.wf_iff, hmax]
  simp only [Config.reference]
  omega

end Sys2Proof

namespace Sys2Proof.Machine

/-- The refusal comes before anything else, whatever instant is next. -/
theorem step_of_not_wf {s : State} (h : s.cfg.wf = false) : step s = .refused .configNotWellFormed := by
  rcases step_cases s with ⟨-, hstep⟩ | ⟨hwf, -⟩
  · exact hstep
  · simp [h] at hwf

/-- Settles O28: the checks (a) to (f) as propositions, `MAX_CODE` written out; the window of the reference configuration; the
identities, which no check reads; and the refusal. -/
theorem illFormedConfigRefused : Obligations.IllFormedConfigRefused :=
  ⟨Config.wf_iff, Config.reference_plausMin_wf_iff, Config.wf_identities, fun _ => step_of_not_wf⟩

end Sys2Proof.Machine
end

section
/-! PROOFS. Idle and Active as functions of `SEQ` (spec/10_state.md R22). -/

namespace Sys2Proof.Machine

theorem State.idle_iff (s : State) : s.idle = true ↔ decode s.seq = .wtick := by
  rw [decode_eq_iff]
  exact decide_eq_true_iff

theorem State.active_iff (s : State) : s.active = true ↔
    decode s.seq = .samp0 ∨ decode s.seq = .samp1 ∨ decode s.seq = .samp2 ∨
    decode s.seq = .conv0 ∨ decode s.seq = .conv1 ∨ decode s.seq = .conv2 ∨
    decode s.seq = .enc ∨ decode s.seq = .txreq ∨ decode s.seq = .txwait := by
  simp only [State.active, decide_eq_true_iff, List.mem_cons, List.not_mem_nil, or_false, decode_eq_iff]
  exact Iff.rfl

/-- Startup and the halted core are outside the scheduler: their codes are none of the ten. -/
theorem State.not_idle_not_active {s : State}
    (h : decode s.seq = .calref ∨ decode s.seq = .resid ∨ decode s.seq = .halt) :
    s.idle = false ∧ s.active = false := by
  rw [Bool.eq_false_iff, Bool.eq_false_iff, Ne, Ne, State.idle_iff, State.active_iff]
  rcases h with h | h | h <;> simp [h]

/-- Settles O33: the literal codes of Idle and Active are those of the ten operations. -/
theorem idleAndActiveAreFunctionsOfSeq : Obligations.IdleAndActiveAreFunctionsOfSeq :=
  fun s => ⟨s.idle_iff, s.active_iff, State.not_idle_not_active⟩

end Sys2Proof.Machine
end

section
/-! PROOFS. Inversion: where the next state of an act and of a step comes from. -/

namespace Sys2Proof.Machine

/-- An act that answers a next state did nothing, completed the transmit, or let CORE move, at most one answer on its lines being new. -/
theorem runAct_next_cases {a : Act} {s t : State} (h : runAct a s = .next t) :
    t = s ∨ t = busComplete s ∨ coreMove s = .next t ∨
    (∃ v, asksAdc (decode s.seq) = true ∧ v ≤ s.cfg.maxCode ∧ coreMove { s with adcAns := some v } = .next t) ∨
    (∃ b, asksStrap (decode s.seq) = true ∧ coreMove { s with strapAns := some b } = .next t) := by
  cases a with
  | core => exact .inr (.inr (.inl h))
  | adcAnswer life v =>
    obtain ⟨-, he⟩ | ⟨-, he⟩ := respond_cases life (adcAnswers v) s
    · replace h : adcAnswers v s = .next t := he.symm.trans h
      unfold adcAnswers at h
      split at h
      · rename_i hask
        obtain ⟨hasks, hv⟩ := (Bool.and_eq_true _ _).mp hask
        exact .inr (.inr (.inr (.inl ⟨v, hasks, of_decide_eq_true hv, h⟩)))
      · cases h; exact .inl rfl
    · cases he.symm.trans h; exact .inl rfl
  | strapAnswer life b =>
    obtain ⟨-, he⟩ | ⟨-, he⟩ := respond_cases life (strapAnswers b) s
    · replace h : strapAnswers b s = .next t := he.symm.trans h
      unfold strapAnswers at h
      split at h
      · exact .inr (.inr (.inr (.inr ⟨b, ‹_›, h⟩)))
      · cases h; exact .inl rfl
    · cases he.symm.trans h; exact .inl rfl
  | busDone life =>
    obtain ⟨-, he⟩ | ⟨-, he⟩ := respond_cases life (fun u => .next (busComplete u)) s
    · cases he.symm.trans h; exact .inr (.inl rfl)
    · cases he.symm.trans h; exact .inl rfl
  | idle => cases h; exact .inl rfl

/-- An instant that changes the reset input is the first of those listed: with nothing listed CORE moves. -/
theorem head?_env_of_nextInstant_reset {s u : State} {a : Bool} (h : nextInstant s = (.reset a, u)) :
    s.env.head? = some (.reset a) := by
  unfold nextInstant at h
  split at h
  · cases h
  · rename_i henv
    cases h
    rw [henv]
    rfl

/-- A step that answers a next state changed the reset input, stood still in reset, or ran an act with TIMER beside it. -/
theorem step_next_cases {s t : State} (h : step s = .next t) :
    (∃ a, s.env.head? = some (.reset a) ∧ t = resetInput a { s with env := s.env.tail }) ∨
    (s.resetIn = true ∧ t = { s with env := s.env.tail }) ∨
    (s.resetIn = false ∧ ∃ a, ∃ tb : Bool, ∃ u, runAct a { s with env := s.env.tail } = .next u ∧
      t = if tb then timebaseEvent u else u) := by
  obtain ⟨-, he⟩ | ⟨-, x, u, hx, hcase⟩ := step_cases s
  · cases he.symm.trans h
  · have hu : u = { s with env := s.env.tail } := by rw [← nextInstant_state, hx]
    subst hu
    obtain ⟨a, rfl, he⟩ | ⟨a, tb, -, hr, he⟩ | ⟨a, tb, -, hr, he⟩ := hcase
    · cases he.symm.trans h
      exact .inl ⟨a, head?_env_of_nextInstant_reset hx, rfl⟩
    · cases he.symm.trans h
      exact .inr (.inl ⟨hr, rfl⟩)
    · obtain ⟨v, hv, ht⟩ := (thenTimebase_next_iff tb _ t).mp (he.symm.trans h)
      exact .inr (.inr ⟨hr, a, tb, v, hv, ht⟩)

end Sys2Proof.Machine
end

section
/-! PROOFS. After startup the calibration, the identity and their two flags stay, and the configuration always does
(spec/10_state.md R30). `StartupKept` is a preorder, so an operation built from several updates keeps what each of them keeps. -/

namespace Sys2Proof.Machine

/-- From `s` to `t` the configuration has not changed, nor has a valid calibration, nor a valid identity. -/
structure StartupKept (s t : State) : Prop where
  /-- the configuration, `REF_MV` in it -/
  cfg : t.cfg = s.cfg
  /-- `CAL_VALID` and `CAL_RAW`, once valid -/
  cal : s.calValid = true → t.calValid = true ∧ t.calRaw = s.calRaw
  /-- `ID_VALID` and `DEV_ID`, once valid -/
  ident : s.idValid = true → t.idValid = true ∧ t.devId = s.devId

/-- What startup has yet to write is still marked invalid where the operation that writes it is next. -/
structure State.StartupAhead (s : State) : Prop where
  /-- `CALREF` runs uncalibrated -/
  cal : decode s.seq = .calref → s.calValid = false
  /-- `RESID` runs unidentified -/
  ident : decode s.seq = .resid → s.idValid = false

theorem State.Inv.startupAhead {s : State} (h : s.Inv) : s.StartupAhead := by
  have hstage := h.at_stage
  unfold State.stage at hstage
  constructor <;> intro hi <;> simp only [hi] at hstage
  · obtain ⟨hcal, -⟩ := hstage
    exact hcal
  · obtain ⟨-, hident, -⟩ := hstage
    exact hident

namespace StartupKept

variable {s t u : State}

theorem refl (s : State) : StartupKept s s := ⟨rfl, fun h => ⟨h, rfl⟩, fun h => ⟨h, rfl⟩⟩

theorem trans (h : StartupKept s t) (h' : StartupKept t u) : StartupKept s u where
  cfg := h'.cfg.trans h.cfg
  cal hs := by
    obtain ⟨hv, hr⟩ := h.cal hs
    obtain ⟨hv', hr'⟩ := h'.cal hv
    exact ⟨hv', hr'.trans hr⟩
  ident hs := by
    obtain ⟨hv, hd⟩ := h.ident hs
    obtain ⟨hv', hd'⟩ := h'.ident hv
    exact ⟨hv', hd'.trans hd⟩

/-- An update that leaves the registers and the two flags alone keeps startup's results. -/
theorem of_eq (hcfg : t.cfg = s.cfg) (hcv : t.calValid = s.calValid) (hiv : t.idValid = s.idValid)
    (hcr : t.calRaw = s.calRaw) (hid : t.devId = s.devId) : StartupKept s t where
  cfg := hcfg
  cal hs := ⟨hcv.trans hs, hcr⟩
  ident hs := ⟨hiv.trans hs, hid⟩

/-! ### The updates of the state -/

theorem after_goTo (i : Instr) (s : State) : StartupKept s (goTo i s) := .of_eq rfl rfl rfl rfl rfl

theorem after_takeAdc (sel : TwoBits) (v : Nat) (s : State) : StartupKept s (takeAdc sel v s) := .of_eq rfl rfl rfl rfl rfl

theorem after_takeStrap (b : Bool) (s : State) : StartupKept s (takeStrap b s) := .of_eq rfl rfl rfl rfl rfl

theorem after_clearTickPend (s : State) : StartupKept s (clearTickPend s) := by
  obtain ⟨hcv, hiv, -⟩ := clearTickPend_fields s
  exact .of_eq rfl hcv hiv rfl rfl

theorem after_timerTick (s : State) : StartupKept s (timerTick s) := by
  obtain ⟨hcv, hiv, -⟩ := setTickPend_fields s
  exact .of_eq rfl hcv hiv rfl rfl

/-- `CALREF`'s latch, in an uncalibrated core. -/
theorem after_latchCal (v : Nat) (h : s.calValid = false) : StartupKept s (setCalValid (writeCalRaw v s)) where
  cfg := rfl
  cal hs := by simp [h] at hs
  ident hs := by
    obtain ⟨-, hiv, -⟩ := setCalValid_fields (writeCalRaw v s)
    exact ⟨hiv.trans hs, rfl⟩

/-- `RESID`'s latch, in an unidentified core. -/
theorem after_latchId (v : Identity) (h : s.idValid = false) : StartupKept s (setIdValid (writeDevId v s)) where
  cfg := rfl
  cal hs := by
    obtain ⟨hcv, -⟩ := setIdValid_fields (writeDevId v s)
    exact ⟨hcv.trans hs, rfl⟩
  ident hs := by simp [h] at hs

theorem after_timebaseEvent (s : State) : StartupKept s (timebaseEvent s) := by
  obtain ⟨-, he⟩ | ⟨-, he⟩ := timebaseEvent_cases s <;> rw [he]
  · refine .trans ?_ (after_timerTick _)
    exact .of_eq rfl rfl rfl rfl rfl
  · exact .of_eq rfl rfl rfl rfl rfl

theorem after_busComplete (s : State) : StartupKept s (busComplete s) := by
  obtain ⟨-, he⟩ | ⟨-, he⟩ := busComplete_cases s <;> rw [he]
  · exact .of_eq rfl rfl rfl rfl rfl
  · exact .refl s

/-! ### The operations -/

theorem of_hold (h : hold s = .next t) : StartupKept s t := by
  cases h; exact .refl s

theorem of_raise {f : Cause} (h : raise f s = .next t) : StartupKept s t := by
  obtain ⟨hcv, hiv, -⟩ := setFault_fields f.code s
  rw [raise_eq] at h
  cases h
  exact .of_eq rfl hcv hiv rfl rfl

theorem of_withAdcRead {sel : TwoBits} {k : Nat → State → Result}
    (hk : ∀ v, k v (takeAdc sel v s) = .next t → StartupKept (takeAdc sel v s) t)
    (h : withAdcRead sel k s = .next t) : StartupKept s t := by
  obtain ⟨-, he⟩ | ⟨v, -, -, he⟩ := withAdcRead_cases sel k s
  · exact of_hold (he.symm.trans h)
  · exact (after_takeAdc sel v s).trans (hk v (he.symm.trans h))

theorem of_withStrapRead {k : Bool → State → Result}
    (hk : ∀ b, k b (takeStrap b s) = .next t → StartupKept (takeStrap b s) t)
    (h : withStrapRead k s = .next t) : StartupKept s t := by
  obtain ⟨-, he⟩ | ⟨b, -, he⟩ := withStrapRead_cases k s
  · exact of_hold (he.symm.trans h)
  · exact (after_takeStrap b s).trans (hk b (he.symm.trans h))

theorem of_calref (hs : s.calValid = false) (h : execCalref s = .next t) : StartupKept s t := by
  refine of_withAdcRead (fun v hv => ?_) h
  split at hv
  · exact of_raise hv
  · split at hv
    · cases hv; exact (after_latchCal (s := takeAdc _ v s) v hs).trans (after_goTo _ _)
    · exact of_raise hv

theorem of_resid (hs : s.idValid = false) (h : execResid s = .next t) : StartupKept s t := by
  refine of_withStrapRead (fun b hb => ?_) h
  split at hb
  · cases hb; exact (after_latchId (s := takeStrap b s) _ hs).trans (after_goTo _ _)
  · exact of_raise hb

theorem of_wtick (h : execWtick s = .next t) : StartupKept s t := by
  unfold execWtick at h
  split at h
  · cases h; exact (after_clearTickPend s).trans (after_goTo _ _)
  · exact of_hold h

theorem of_sampleChannel {c : Channel} {i : Instr} (h : sampleChannel c i s = .next t) : StartupKept s t :=
  of_withAdcRead (fun _ hv => by cases hv; exact .of_eq rfl rfl rfl rfl rfl) h

theorem of_convertChannel {c : Channel} {i : Instr} (h : convertChannel c i s = .next t) : StartupKept s t := by
  obtain ⟨v, -, he⟩ | ⟨-, he⟩ := convertChannel_cases c i s
  · cases he.symm.trans h; exact .of_eq rfl rfl rfl rfl rfl
  · cases he.symm.trans h

theorem of_enc (h : execEnc s = .next t) : StartupKept s t := by
  unfold execEnc at h
  rw [packReadings_eq] at h
  cases h; exact .of_eq rfl rfl rfl rfl rfl

theorem of_txreq (h : execTxreq s = .next t) : StartupKept s t := by
  unfold execTxreq at h
  split at h
  · cases h; exact .of_eq rfl rfl rfl rfl rfl
  · cases h

theorem of_txwait (h : execTxwait s = .next t) : StartupKept s t := by
  unfold execTxwait at h
  split at h
  · exact of_hold h
  · cases h; exact after_goTo _ s

/-- CORE's move: only `CALREF` and `RESID` write what is kept here, and each runs before its flag is set. -/
theorem of_coreMove (hs : s.StartupAhead) (h : coreMove s = .next t) : StartupKept s t := by
  unfold coreMove at h
  cases hi : decode s.seq <;> rw [hi] at h
  case calref => exact of_calref (hs.cal hi) h
  case resid => exact of_resid (hs.ident hi) h
  case wtick => exact of_wtick h
  case halt => exact of_hold h
  case samp0 | samp1 | samp2 => exact of_sampleChannel h
  case conv0 | conv1 | conv2 => exact of_convertChannel h
  case enc => exact of_enc h
  case txreq => exact of_txreq h
  case txwait => exact of_txwait h
  case reserved7 | reservedB | reservedF => exact of_raise h

/-! ### One act and one step -/

/-- An answer put on a port line changes neither what is kept nor how far startup has come. -/
theorem of_coreMove_answered {v : Option Nat} {b : Option Bool} (hs : s.StartupAhead)
    (h : coreMove { s with adcAns := v, strapAns := b } = .next t) : StartupKept s t := by
  refine .trans ?_ (of_coreMove ?_ h)
  · exact .of_eq rfl rfl rfl rfl rfl
  · exact ⟨hs.cal, hs.ident⟩

theorem of_runAct {a : Act} (hs : s.StartupAhead) (h : runAct a s = .next t) : StartupKept s t := by
  obtain rfl | rfl | hmove | ⟨v, -, -, hmove⟩ | ⟨b, -, hmove⟩ := runAct_next_cases h
  · exact .refl _
  · exact after_busComplete s
  · exact of_coreMove hs hmove
  · exact of_coreMove_answered hs hmove
  · exact of_coreMove_answered hs hmove

/-- A step either changes the reset input or keeps startup's results. -/
theorem of_step (hs : s.StartupAhead) (h : step s = .next t) :
    (∃ a, s.env.head? = some (.reset a) ∧ t = resetInput a { s with env := s.env.tail }) ∨ StartupKept s t := by
  have htail : StartupKept s { s with env := s.env.tail } := .of_eq rfl rfl rfl rfl rfl
  obtain hreset | ⟨-, rfl⟩ | ⟨-, a, tb, u, hact, rfl⟩ := step_next_cases h
  · exact .inl hreset
  · exact .inr htail
  · have hu : StartupKept s u := htail.trans (of_runAct ⟨hs.cal, hs.ident⟩ hact)
    cases tb
    · exact .inr hu
    · exact .inr (hu.trans (after_timebaseEvent u))

end StartupKept

/-- The constants are hardwired: the reset input does not reach them. -/
@[simp] theorem resetInput_cfg (a : Bool) (s : State) : (resetInput a s).cfg = s.cfg := by
  cases a <;> rfl

/-- Settles O44: every step but a change of the reset input keeps startup's results, and that change keeps the configuration. -/
theorem calibrationAndIdentityAreImmutable : Obligations.CalibrationAndIdentityAreImmutable := by
  intro s t hinv hstep
  obtain ⟨a, hhead, rfl⟩ | hkept := StartupKept.of_step hinv.startupAhead hstep
  · exact ⟨resetInput_cfg a _, fun hno => absurd rfl (hno _ hhead a)⟩
  · exact ⟨hkept.cfg, fun _ => ⟨hkept.cal, hkept.ident⟩⟩

end Sys2Proof.Machine
end

section
/-! PROOFS. The code map as a bijection between the operations and the 4-bit values (spec/30_encoding.md R59). -/

namespace Sys2Proof.Machine

/-- Settles O30: the three laws of the code map. -/
theorem codeMapIsABijection : Obligations.CodeMapIsABijection :=
  ⟨decode_encode, encode_decode, decodeNumber_encode⟩

end Sys2Proof.Machine
end

section
/-! PROOFS. Facts about the shared operations that the proofs of single operations cite: the analog read in each state of its line,
fault entry, and the plausibility window. -/

namespace Sys2Proof.Machine

/-- With nothing on the ASEL line an analog read holds (20_memory.md R41). -/
theorem withAdcRead_of_adcAns_none {sel : TwoBits} {k : Nat → State → Result} {s : State} (h : s.adcAns = none) :
    withAdcRead sel k s = .next s := by
  obtain ⟨-, he⟩ | ⟨v, hv, -⟩ := withAdcRead_cases sel k s
  · exact he
  · cases h.symm.trans hv

/-- A code that the ASEL port can express is taken at once (20_memory.md R41, R53). -/
theorem withAdcRead_of_adcAns_some {sel : TwoBits} {k : Nat → State → Result} {s : State} {v : Nat}
    (h : s.adcAns = some v) (hmax : v ≤ s.cfg.maxCode) : withAdcRead sel k s = k v (takeAdc sel v s) := by
  obtain ⟨hnone, -⟩ | ⟨w, hw, -, he⟩ := withAdcRead_cases sel k s
  · cases hnone.symm.trans ((adcLine_eq_some_iff s v).mpr ⟨h, hmax⟩)
  · cases h.symm.trans hw
    exact he

/-- `raise` performs exactly fault entry with its cause's code (60_exceptions.md R128). -/
theorem raise_enters (f : Cause) (s : State) : ∃ t, raise f s = .next t ∧ FaultEntered f.code s t := by
  obtain ⟨hcal, hid, htick, hflag, hcause⟩ := setFault_fields f.code s
  obtain ⟨-, -, -, -, hreserved⟩ := status_updates_keep_reserved f.code s
  exact ⟨_, raise_eq f s, {
    seq := rfl
    flag := hflag
    cause := hcause
    history := rfl
    flags := ⟨hcal, hid, htick, hreserved⟩
    rest := rfl }⟩

/-- The window is inclusive at both ends (40_calibration.md R73). -/
theorem plausible_iff (cfg : Config) (v : Nat) : plausible cfg v = true ↔ cfg.plausMin ≤ v ∧ v ≤ cfg.plausMax := by
  simp only [plausible, Bool.and_eq_true, decide_eq_true_iff]

end Sys2Proof.Machine
end

section
/-! PROOFS. The outcomes of `CALREF` (spec/40_calibration.md R71). -/

namespace Sys2Proof.Machine

theorem execCalref_of_no_answer {s : State} (h : s.adcAns = none) : execCalref s = .next s :=
  withAdcRead_of_adcAns_none h

section
variable {s : State} {v : Nat} (hans : s.adcAns = some v) (hmax : v ≤ s.cfg.maxCode)
include hans hmax

/-- An answered `CALREF` judges the code it takes: zero first, then the window. -/
theorem execCalref_of_answer : execCalref s =
    if v = 0 then raise .calZero (takeAdc 3 v s)
    else if plausible s.cfg v then .next (goTo .resid (setCalValid (writeCalRaw v (takeAdc 3 v s))))
    else raise .calImplausible (takeAdc 3 v s) :=
  withAdcRead_of_adcAns_some hans hmax

theorem execCalref_of_zero (h : v = 0) : execCalref s = raise .calZero (takeAdc 3 v s) := by
  rw [execCalref_of_answer hans hmax, if_pos h]

theorem execCalref_of_implausible (h0 : v ≠ 0) (hout : v < s.cfg.plausMin ∨ s.cfg.plausMax < v) :
    execCalref s = raise .calImplausible (takeAdc 3 v s) := by
  have hwin : ¬ plausible s.cfg v = true := by
    rw [plausible_iff]
    omega
  rw [execCalref_of_answer hans hmax, if_neg h0, if_neg hwin]

theorem execCalref_of_plausible (h0 : v ≠ 0) (hlow : s.cfg.plausMin ≤ v) (hhigh : v ≤ s.cfg.plausMax) :
    execCalref s = .next (goTo .resid (setCalValid (writeCalRaw v (takeAdc 3 v s)))) := by
  have hwin : plausible s.cfg v = true := (plausible_iff _ _).mpr ⟨hlow, hhigh⟩
  rw [execCalref_of_answer hans hmax, if_neg h0, if_pos hwin]

end

/-- Settles O1: the hold, and the three verdicts on an answer, each from the outcome lemma of its case. -/
theorem calrefOutcomes : Obligations.CalrefOutcomes := by
  refine ⟨rfl, rfl, fun s => ⟨execCalref_of_no_answer, fun v hans hmax => ⟨fun h => ?_, fun h0 hout => ?_,
    fun h0 hlow hhigh => ?_⟩⟩⟩
  · obtain ⟨t, ht, hfault⟩ := raise_enters .calZero (takeAdc 3 v s)
    exact ⟨t, (execCalref_of_zero hans hmax h).trans ht, hfault⟩
  · obtain ⟨t, ht, hfault⟩ := raise_enters .calImplausible (takeAdc 3 v s)
    exact ⟨t, (execCalref_of_implausible hans hmax h0 hout).trans ht, hfault⟩
  · exact execCalref_of_plausible hans hmax h0 hlow hhigh

end Sys2Proof.Machine
end

section
/-! PROOFS. The outcomes of `SAMP c`, once for all three channels (spec/41_sampler.md R77). -/

namespace Sys2Proof.Machine

section
variable {s : State} (c : Channel) (i : Instr)

theorem sampleChannel_of_no_answer (h : s.adcAns = none) : sampleChannel c i s = .next s :=
  withAdcRead_of_adcAns_none h

/-- The code taken is stored as it came, at either rail too: the whole next state, for any channel and successor. -/
theorem sampleChannel_of_answer {v : Nat} (hans : s.adcAns = some v) (hmax : v ≤ s.cfg.maxCode) :
    sampleChannel c i s = .next { s with
      adcAns := none, history := s.history ++ [.adcRead (channelSelect c) v], raw := s.raw.set c v,
      held := { s.held with raw := s.held.raw.set c true }, seq := encode i } :=
  withAdcRead_of_adcAns_some hans hmax

end

/-- Settles O5: the three codes, the hold, and the stored answer, each channel being one use of the lemma for all channels. -/
theorem sampOutcomes : Obligations.SampOutcomes := by
  refine ⟨rfl, rfl, rfl, fun s => ⟨fun hnone => ⟨?_, ?_, ?_⟩, fun v hans hmax => ⟨?_, ?_, ?_⟩⟩⟩
  · exact sampleChannel_of_no_answer .ch0 .samp1 hnone
  · exact sampleChannel_of_no_answer .ch1 .samp2 hnone
  · exact sampleChannel_of_no_answer .ch2 .conv0 hnone
  · exact sampleChannel_of_answer .ch0 .samp1 hans hmax
  · exact sampleChannel_of_answer .ch1 .samp2 hans hmax
  · exact sampleChannel_of_answer .ch2 .conv0 hans hmax

end Sys2Proof.Machine
end

section
/-! PROOFS. The identities of `ToMv` and the order it keeps and reverses (spec/42_converter.md R88 to R90). -/

namespace Sys2Proof.Machine

@[simp] theorem toMv_zero (m d : Nat) : toMv 0 m d = 0 := by
  simp [toMv]

/-- A whole multiple of the reference code reads the same multiple of `REF_MV`. -/
theorem toMv_mul_self {d : Nat} (k m : Nat) (hd : d ≠ 0) : toMv (k * d) m d = k * m := by
  rw [toMv, Nat.mul_right_comm, Nat.mul_div_cancel _ (Nat.pos_of_ne_zero hd)]

theorem toMv_self {d : Nat} (m : Nat) (hd : d ≠ 0) : toMv d m d = m := by
  simpa using toMv_mul_self 1 m hd

theorem toMv_eq_zero_iff {d : Nat} (r m : Nat) (hd : d ≠ 0) : toMv r m d = 0 ↔ r * m < d :=
  Nat.div_eq_zero_iff_lt (Nat.pos_of_ne_zero hd)

theorem toMv_le_mul (r m d : Nat) : toMv r m d ≤ r * m :=
  Nat.div_le_self _ _

theorem toMv_mono_code {r1 r2 : Nat} (m d : Nat) (h : r1 ≤ r2) : toMv r1 m d ≤ toMv r2 m d :=
  Nat.div_le_div_right (Nat.mul_le_mul_right m h)

theorem toMv_anti_divisor {d e : Nat} (r m : Nat) (hd : d ≠ 0) (h : d ≤ e) : toMv r m e ≤ toMv r m d :=
  Nat.div_le_div_left h (Nat.pos_of_ne_zero hd)

/-- Settles O35: the six identities, each by its lemma. -/
theorem conversionIdentities : Obligations.ConversionIdentities :=
  ⟨fun m d _ => toMv_zero m d, fun m _ => toMv_self m, fun r m _ => toMv_eq_zero_iff r m, fun r m d _ => toMv_le_mul r m d,
    fun r m _ _ => toMv_anti_divisor r m, fun k m _ => toMv_mul_self k m⟩

end Sys2Proof.Machine
end

section
/-! PROOFS. Under the invariant every quotient fits its register, so that a conversion completes with exactly the quotient
(spec/42_converter.md R86). -/

namespace Sys2Proof

namespace Config

/-- Check (d): no divisor in the window is 0. -/
theorem plausMin_pos {c : Config} (h : c.wf = true) : 0 < c.plausMin := by
  obtain ⟨-, -, -, ⟨hmin, -, -⟩, -⟩ := c.wf_iff.mp h
  exact hmin

/-- Check (e): the largest code over the smallest plausible divisor stays within 16 bits. -/
theorem largest_quotient_lt {c : Config} (h : c.wf = true) : c.maxCode * c.refMv / c.plausMin < 2 ^ 16 := by
  obtain ⟨-, -, -, -, hfits, -⟩ := c.wf_iff.mp h
  exact (Nat.div_lt_iff_lt_mul (plausMin_pos h)).mpr hfits

theorem reference_largest_quotient : reference.maxCode * reference.refMv / reference.plausMin = 65413 := by
  rw [reference_maxCode]
  rfl

end Config

end Sys2Proof

namespace Sys2Proof.Machine

/-- The operation `CONV c` makes control go to (45_scheduler.md R109). -/
def convSuccessor : Channel → Instr
  | .ch0 => .conv1
  | .ch1 => .conv2
  | .ch2 => .enc

theorem exec_convOf (c : Channel) (s : State) : exec (convOf c) s = convertChannel c (convSuccessor c) s := by
  cases c <;> rfl

theorem reading_of_fits {r m d : Nat} (hd : d ≠ 0) (hfits : toMv r m d < 2 ^ 16) :
    reading r m d = .ok (BitVec.ofNat 16 (toMv r m d)) := by
  rw [reading, if_neg hd, if_pos hfits]

/-- On the domain of R82 `CONV c` completes, and the register, read as a number, is the quotient. -/
theorem exec_convOf_of_fits {c : Channel} {s : State} (hd : s.calRaw ≠ 0)
    (hfits : toMv (s.raw.get c) s.cfg.refMv s.calRaw < 2 ^ 16) :
    ∃ t, exec (convOf c) s = .next t ∧ (t.mv.get c).toNat = toMv (s.raw.get c) s.cfg.refMv s.calRaw := by
  refine ⟨goTo (convSuccessor c) (writeMv c (BitVec.ofNat 16 (toMv (s.raw.get c) s.cfg.refMv s.calRaw)) s), ?_, ?_⟩
  · rw [exec_convOf, convertChannel, reading_of_fits hd hfits]
  · simpa using hfits

namespace State.Inv

variable {s : State} (h : s.Inv) (hcal : s.calValid = true) (c : Channel)
include h hcal

/-- A calibrated core's divisor is not below the window. -/
theorem plausMin_le_calRaw : s.cfg.plausMin ≤ s.calRaw := by
  obtain ⟨hplausible, -⟩ := h.cal_plausible hcal
  obtain ⟨hlow, -⟩ := (plausible_iff _ _).mp hplausible
  exact hlow

theorem calRaw_ne_zero : s.calRaw ≠ 0 :=
  ((Config.plausMin_pos h.cfg_wf).trans_le (h.plausMin_le_calRaw hcal)).ne'

/-- The largest code over the smallest plausible divisor bounds every quotient. -/
theorem toMv_le_largest : toMv (s.raw.get c) s.cfg.refMv s.calRaw ≤ s.cfg.maxCode * s.cfg.refMv / s.cfg.plausMin :=
  calc toMv (s.raw.get c) s.cfg.refMv s.calRaw
    _ ≤ toMv s.cfg.maxCode s.cfg.refMv s.calRaw := toMv_mono_code _ _ (h.raw_range c)
    _ ≤ toMv s.cfg.maxCode s.cfg.refMv s.cfg.plausMin :=
      toMv_anti_divisor _ _ (Config.plausMin_pos h.cfg_wf).ne' (h.plausMin_le_calRaw hcal)

/-- A calibrated core's `CONV c` completes with exactly the quotient. -/
theorem conv_completes : ∃ t, exec (convOf c) s = .next t ∧
    (t.mv.get c).toNat = toMv (s.raw.get c) s.cfg.refMv s.calRaw :=
  exec_convOf_of_fits (h.calRaw_ne_zero hcal) ((h.toMv_le_largest hcal c).trans_lt (Config.largest_quotient_lt h.cfg_wf))

end State.Inv

/-- Settles O37: the bound of the window, which for the reference configuration is `4095 * 1230 / 77 = 65413`, and exact
completion below it. -/
theorem narrowingIsLossless : Obligations.NarrowingIsLossless := by
  refine ⟨fun c s h hcal => ?_, by decide, by decide⟩
  have hle := h.toMv_le_largest hcal c
  refine ⟨hle, Nat.le_of_lt_succ (Config.largest_quotient_lt h.cfg_wf), h.conv_completes hcal c, fun href => ?_⟩
  rwa [href, Config.reference_largest_quotient, ← href] at hle

/-- Settles O36: for the function by the order of the quotients, and for the register because both conversions complete with
exactly their quotients, over one divisor. -/
theorem readingsAreMonotonic : Obligations.ReadingsAreMonotonic := by
  refine ⟨fun _ _ m d _ => toMv_mono_code m d, fun c s s' h h' hcfg hdiv hcal hcal' hraw => ?_, by decide, by decide⟩
  obtain ⟨t, ht, hmv⟩ := h.conv_completes hcal c
  obtain ⟨t', ht', hmv'⟩ := h'.conv_completes hcal' c
  refine ⟨t, t', ht, ht', ?_⟩
  rw [hmv, hmv', ← hcfg, ← hdiv]
  exact toMv_mono_code _ _ hraw

end Sys2Proof.Machine
end

section
/-! PROOFS. The outcomes of `RESID` (spec/43_identity.md R92). -/

namespace Sys2Proof.Machine

/-- With nothing on the STRAP line a strap read holds (20_memory.md R42). -/
theorem withStrapRead_of_strapAns_none {k : Bool → State → Result} {s : State} (h : s.strapAns = none) :
    withStrapRead k s = .next s := by
  obtain ⟨-, he⟩ | ⟨b, hb, -⟩ := withStrapRead_cases k s
  · exact he
  · cases h.symm.trans hb

/-- A level on the STRAP line is taken at once (20_memory.md R42). -/
theorem withStrapRead_of_strapAns_some {k : Bool → State → Result} {s : State} {b : Bool} (h : s.strapAns = some b) :
    withStrapRead k s = k b (takeStrap b s) := by
  obtain ⟨hnone, -⟩ | ⟨c, hc, he⟩ := withStrapRead_cases k s
  · cases hnone.symm.trans h
  · cases h.symm.trans hc
    exact he

theorem execResid_of_no_answer {s : State} (h : s.strapAns = none) : execResid s = .next s :=
  withStrapRead_of_strapAns_none h

section
variable {s : State} {b : Bool} (hans : s.strapAns = some b)
include hans

/-- An answered `RESID` judges the constant the strap selects, and no other. -/
theorem execResid_of_answer : execResid s =
    if strapIdentity s.cfg b ≤ maxIdentity then
      .next (goTo .wtick (setIdValid (writeDevId (BitVec.ofNat 11 (strapIdentity s.cfg b)) (takeStrap b s))))
    else raise .idInvalid (takeStrap b s) :=
  withStrapRead_of_strapAns_some hans

theorem execResid_of_unfit (h : maxIdentity < strapIdentity s.cfg b) : execResid s = raise .idInvalid (takeStrap b s) := by
  rw [execResid_of_answer hans, if_neg (Nat.not_le.mpr h)]

theorem execResid_of_fits (h : strapIdentity s.cfg b ≤ maxIdentity) :
    execResid s =
      .next (goTo .wtick (setIdValid (writeDevId (BitVec.ofNat 11 (strapIdentity s.cfg b)) (takeStrap b s)))) := by
  rw [execResid_of_answer hans, if_pos h]

end

/-- Settles O2: the hold, and the two verdicts on the selected constant, each from the outcome lemma of its case. -/
theorem residOutcomes : Obligations.ResidOutcomes := by
  refine ⟨rfl, fun s => ⟨execResid_of_no_answer, fun b k hans hk => ?_⟩⟩
  replace hk : k = strapIdentity s.cfg b := hk
  subst hk
  refine ⟨fun hunfit => ?_, fun hfits => ?_⟩
  · obtain ⟨t, ht, hfault⟩ := raise_enters .idInvalid (takeStrap b s)
    exact ⟨t, (execResid_of_unfit hans hunfit).trans ht, hfault⟩
  · exact execResid_of_fits hans hfits

end Sys2Proof.Machine
end

section
/-! PROOFS. The bytes of the frame that `ENC` packs: each is the byte of `payloadOf` at its offset (spec/30_encoding.md R60, R63),
and a load over bytes of one value answers that part of it (spec/20_memory.md R36). -/

namespace Sys2Proof.Machine

/-! ## Loading bytes of one value -/

/-- A byte put below the field above it extends the field down by a byte. -/
theorem shiftLeft_or_byte_eq_extractLsb' (p : Payload) (j n : Nat) :
    (((p.extractLsb' (j + 8) (8 * n)).setWidth 64 <<< 8) ||| (p.extractLsb' j 8).setWidth 64) =
      (p.extractLsb' j (8 * (n + 1))).setWidth 64 := by
  refine BitVec.eq_of_getLsbD_eq fun i hi => ?_
  by_cases hlow : i < 8
  · simp [hi, hlow, show i < 8 * (n + 1) by omega]
  · have hpos : j + 8 + (i - 8) = j + i := by omega
    have hin : i - 8 < 8 * n ↔ i < 8 * (n + 1) := by omega
    simp [hi, hlow, hpos, hin]

theorem loadBytes_of_read {m : Memory} {p : Payload} (n : Nat) : ∀ a j : Nat,
    (∀ k < n, m.read (a + k) = some (p.extractLsb' (j + 8 * k) 8)) →
    loadBytes m a n = .ok ((p.extractLsb' j (8 * n)).setWidth 64) := by
  induction n with
  | zero => intro a j _; simp [loadBytes]
  | succ n ih =>
    intro a j hread
    have hfirst : m.read a = some (p.extractLsb' j 8) := hread 0 (Nat.zero_lt_succ n)
    have hrest := ih (a + 1) (j + 8) fun k hk => by
      have h := hread (k + 1) (Nat.succ_lt_succ hk)
      rwa [show a + (k + 1) = a + 1 + k by omega, show j + 8 * (k + 1) = j + 8 + 8 * k by omega] at h
    rw [loadBytes, hfirst, hrest]
    exact congrArg Except.ok (shiftLeft_or_byte_eq_extractLsb' p j n)

/-- A load inside the buffer over bytes that are `p`'s from bit `j` up answers that field of `p`, zero-extended. -/
theorem memRead_of_read {m : Memory} {p : Payload} {a j : Nat} {n : AccessWidth} (hin : a + n.bytes ≤ payloadLen)
    (hread : ∀ k < n.bytes, m.read (a + k) = some (p.extractLsb' (j + 8 * k) 8)) :
    memRead a n m = .ok ((p.extractLsb' j (8 * n.bytes)).setWidth 64) := by
  rw [memRead, if_pos hin, loadBytes_of_read _ a j hread]

/-! ## The fields of a payload -/

section
variable (a b c : Millivolts) {start len : Nat}

/-- A field that lies within the first reading. -/
theorem extractLsb'_payloadOf_ch0 (h : start + len ≤ 16) :
    (payloadOf a b c).extractLsb' start len = a.extractLsb' start len :=
  BitVec.extractLsb'_append_eq_of_add_le h

/-- A field that lies within the second reading, at `start` from its first bit. -/
theorem extractLsb'_payloadOf_ch1 (h : start + len ≤ 16) :
    (payloadOf a b c).extractLsb' (16 + start) len = b.extractLsb' start len := by
  rw [payloadOf, BitVec.extractLsb'_append_eq_of_le (Nat.le_add_right _ _), Nat.add_sub_cancel_left,
    BitVec.extractLsb'_append_eq_of_add_le h]

/-- A field that lies within the third reading, at `start` from its first bit. -/
theorem extractLsb'_payloadOf_ch2 (h : start + len ≤ 16) :
    (payloadOf a b c).extractLsb' (32 + start) len = c.extractLsb' start len := by
  rw [payloadOf, BitVec.extractLsb'_append_eq_of_le (by omega), BitVec.extractLsb'_append_eq_of_le (by omega),
    show 32 + start - 16 - 16 = start by omega, BitVec.extractLsb'_append_eq_of_add_le h]

/-- A field that lies within the reserved bytes. -/
theorem extractLsb'_payloadOf_reserved : (payloadOf a b c).extractLsb' (48 + start) len = 0#len := by
  rw [payloadOf, BitVec.extractLsb'_append_eq_of_le (by omega), BitVec.extractLsb'_append_eq_of_le (by omega),
    BitVec.extractLsb'_append_eq_of_le (by omega), BitVec.extractLsb'_zero]

/-- The three readings, each as a whole field. -/
theorem payloadOf_readings : (payloadOf a b c).extractLsb' 0 16 = a ∧ (payloadOf a b c).extractLsb' 16 16 = b ∧
    (payloadOf a b c).extractLsb' 32 16 = c :=
  ⟨(extractLsb'_payloadOf_ch0 a b c (Nat.le_refl _)).trans BitVec.extractLsb'_eq_self,
    (extractLsb'_payloadOf_ch1 a b c (Nat.le_refl _)).trans BitVec.extractLsb'_eq_self,
    (extractLsb'_payloadOf_ch2 a b c (Nat.le_refl _)).trans BitVec.extractLsb'_eq_self⟩

end

/-! ## The packed frame -/

/-- The frame buffer after `ENC`'s four writes (44_frame_encoder.md R97). -/
def packedFrame (mv : PerChannel Millivolts) (m : Memory) : Memory :=
  storeBytes 0x0000 (storeBytes (mv.ch2.setWidth 64)
    (storeBytes (mv.ch1.setWidth 64) (storeBytes (mv.ch0.setWidth 64) m 0 2) 2 2) 4 2) 6 2

theorem packReadings_eq_packedFrame (mv : PerChannel Millivolts) (m : Memory) :
    packReadings mv m = .ok (packedFrame mv m) := packReadings_eq mv m

/-- Which byte each offset holds after a 16-bit word is stored. -/
theorem read_storeBytes_word {m : Memory} (w : BitVec 16) (a k : Nat) (h : m.wf) (ha : a + 2 ≤ payloadLen) :
    (storeBytes (w.setWidth 64) m a 2).read k =
      if a ≤ k ∧ k < a + 2 then some (w.extractLsb' (8 * (k - a)) 8) else m.read k := by
  rw [read_storeBytes _ _ _ _ _ h ha]
  split
  · rw [BitVec.setWidth_ushiftRight_eq_extractLsb, BitVec.extractLsb'_setWidth_of_le (by omega)]
  · rfl

/-- The writes of `ENC`, looked up from the last to the first. -/
theorem read_packedFrame_cases (mv : PerChannel Millivolts) {m : Memory} (h : m.wf) (k : Nat) :
    (packedFrame mv m).read k =
      if 6 ≤ k ∧ k < 8 then some (BitVec.extractLsb' (8 * (k - 6)) 8 0x0000#16)
      else if 4 ≤ k ∧ k < 6 then some (mv.ch2.extractLsb' (8 * (k - 4)) 8)
      else if 2 ≤ k ∧ k < 4 then some (mv.ch1.extractLsb' (8 * (k - 2)) 8)
      else if 0 ≤ k ∧ k < 2 then some (mv.ch0.extractLsb' (8 * (k - 0)) 8)
      else m.read k := by
  have h0 := storeBytes_wf 2 (mv.ch0.setWidth 64) m 0 h (by decide)
  have h1 := storeBytes_wf 2 (mv.ch1.setWidth 64) _ 2 h0 (by decide)
  have h2 := storeBytes_wf 2 (mv.ch2.setWidth 64) _ 4 h1 (by decide)
  refine (read_storeBytes_word 0x0000#16 6 k h2 (by decide)).trans ?_
  rw [read_storeBytes_word mv.ch2 4 k h1 (by decide), read_storeBytes_word mv.ch1 2 k h0 (by decide),
    read_storeBytes_word mv.ch0 0 k h (by decide)]

/-- Every byte of the frame is the payload's byte at its offset, and no byte outside the frame is written. -/
theorem read_packedFrame (mv : PerChannel Millivolts) {m : Memory} (h : m.wf) (k : Nat) :
    (packedFrame mv m).read k =
      if k < 8 then some ((payloadOf mv.ch0 mv.ch1 mv.ch2).extractLsb' (8 * k) 8) else m.read k := by
  rw [read_packedFrame_cases mv h]
  split
  case isTrue hk =>
    rw [if_pos hk.2, show 8 * k = 48 + 8 * (k - 6) by omega, extractLsb'_payloadOf_reserved, BitVec.extractLsb'_zero]
  split
  case isTrue hk =>
    rw [if_pos (by omega), show 8 * k = 32 + 8 * (k - 4) by omega,
      extractLsb'_payloadOf_ch2 _ _ _ (by omega)]
  split
  case isTrue hk =>
    rw [if_pos (by omega), show 8 * k = 16 + 8 * (k - 2) by omega,
      extractLsb'_payloadOf_ch1 _ _ _ (by omega)]
  split
  case isTrue hk =>
    rw [if_pos (by omega), Nat.sub_zero, extractLsb'_payloadOf_ch0 _ _ _ (by omega)]
  rw [if_neg (by omega)]

/-- A read inside the frame answers the payload's field there, zero-extended. -/
theorem memRead_packedFrame (mv : PerChannel Millivolts) {m : Memory} (h : m.wf) {a : Nat} {n : AccessWidth}
    {w : BitVec (8 * n.bytes)} (hin : a + n.bytes ≤ payloadLen)
    (hw : (payloadOf mv.ch0 mv.ch1 mv.ch2).extractLsb' (8 * a) (8 * n.bytes) = w) :
    memRead a n (packedFrame mv m) = .ok (w.setWidth 64) := by
  subst hw
  refine memRead_of_read hin fun k hk => ?_
  have hframe : a + k < 8 := (Nat.add_lt_add_left hk a).trans_le hin
  rw [read_packedFrame mv h, if_pos hframe, Nat.mul_add]

end Sys2Proof.Machine
end

section
/-! PROOFS. `ENC`: what it writes, and that the payload decodes to the readings (spec/44_frame_encoder.md R97, R99, R100). -/

namespace Sys2Proof.Machine

/-- `ENC` always completes: the whole next state. -/
theorem exec_enc (s : State) : exec .enc s = .next { s with
    txid := s.devId, held := { s.held with txid := true }, txbuf := packedFrame s.mv s.txbuf, seq := 0xD#4 } := by
  change execEnc s = _
  rw [execEnc, packReadings_eq_packedFrame]
  rfl

theorem txbuf_of_exec_enc {s t : State} (h : exec .enc s = .next t) : t.txbuf = packedFrame s.mv s.txbuf := by
  cases (exec_enc s).symm.trans h
  rfl

/-- Settles O10: each read answers its field of the payload, which is the reading there, the zeros, or the whole. -/
theorem encRoundTrip : Obligations.EncRoundTrip := by
  intro s t hwf hexec
  obtain ⟨h0, h1, h2⟩ := payloadOf_readings s.mv.ch0 s.mv.ch1 s.mv.ch2
  rw [txbuf_of_exec_enc hexec]
  refine ⟨?_, ?_, ?_, ?_, ?_, ?_⟩
  · exact memRead_packedFrame s.mv hwf (by decide) h0
  · exact memRead_packedFrame s.mv hwf (by decide) h1
  · exact memRead_packedFrame s.mv hwf (by decide) h2
  · exact read_packedFrame_cases s.mv hwf 6
  · exact read_packedFrame_cases s.mv hwf 7
  · exact (memRead_packedFrame s.mv hwf (by decide) BitVec.extractLsb'_eq_self).trans
      (congrArg Except.ok (BitVec.setWidth_eq _))

/-- Settles O9: the next state is `exec_enc`'s, and each byte of its frame is looked up in the writes. -/
theorem encWritesTheFrame : Obligations.EncWritesTheFrame := by
  refine ⟨rfl, fun s hwf => ⟨packedFrame s.mv s.txbuf, exec_enc s, ?_⟩⟩
  have hread := read_packedFrame_cases s.mv hwf
  refine ⟨hread 0, hread 1, hread 2, hread 3, hread 4, hread 5, hread 6, hread 7, fun a ha => ?_⟩
  rw [read_packedFrame s.mv hwf, if_neg (Nat.not_lt.mpr ha)]

end Sys2Proof.Machine
end

section
/-! PROOFS. The outcomes of `TXWAIT` (spec/44_frame_encoder.md R103). -/

namespace Sys2Proof.Machine

theorem execTxwait_of_busy {s : State} (h : s.txBusy = true) : execTxwait s = .next s := by
  rw [execTxwait, if_pos h, hold]

theorem execTxwait_of_not_busy {s : State} (h : s.txBusy = false) : execTxwait s = .next (goTo .wtick s) := by
  rw [execTxwait, h, if_neg Bool.false_ne_true]

/-- Settles O13: the hold and the return to Idle, each from the outcome lemma of its case. -/
theorem txwaitOutcomes : Obligations.TxwaitOutcomes :=
  ⟨rfl, fun _ => ⟨execTxwait_of_busy, execTxwait_of_not_busy⟩⟩

end Sys2Proof.Machine
end

section
/-! PROOFS. The period of the ticks, over timebase events (spec/45_scheduler.md R116). -/

namespace Sys2Proof.Machine

theorem ticksSeen_append_tick (h : List Event) : ticksSeen (h ++ [.tick]) = ticksSeen h + 1 :=
  List.countP_append

/-- From any count below the period: the first tick comes with the event that finds the count at 0, and each tick starts a whole
period. -/
theorem ticksSeen_iterate_timebaseEvent (n : Nat) : ∀ s : State, s.ptmr < s.cfg.periodCount →
    ticksSeen (timebaseEvent^[n] s).history =
      ticksSeen s.history + (n + (s.cfg.periodCount - 1 - s.ptmr)) / s.cfg.periodCount := by
  induction n with
  | zero =>
    intro s hs
    rw [Function.iterate_zero_apply, Nat.div_eq_of_lt (by omega), Nat.add_zero]
  | succ n ih =>
    intro s hs
    rw [Function.iterate_succ_apply]
    obtain ⟨hzero, he⟩ | ⟨hpos, he⟩ := timebaseEvent_cases s
    case inl =>
      have hreload := ih (timebaseEvent s) (by simp only [he, timerTick_ptmr, timerTick_cfg]; omega)
      have hwhole : n + 1 + (s.cfg.periodCount - 1 - s.ptmr) = n + s.cfg.periodCount := by omega
      rw [hwhole, Nat.add_div_right n (by omega), hreload]
      simp only [he, timerTick_ptmr, timerTick_cfg, timerTick_history, ticksSeen_append_tick, Nat.sub_self, Nat.add_zero]
      omega
    case inr =>
      have hcount := ih (timebaseEvent s) (by simp only [he]; omega)
      have hsame : n + (s.cfg.periodCount - 1 - (s.ptmr - 1)) = n + 1 + (s.cfg.periodCount - 1 - s.ptmr) := by omega
      simpa only [he, hsame] using hcount

/-- Reset loads the whole period, so no part of it has passed. -/
theorem ticksSeen_iterate_timebaseEvent_resetWith (n : Nat) {c : Config} (hc : 1 ≤ c.periodCount) :
    ticksSeen (timebaseEvent^[n] (State.resetWith c)).history = n / c.periodCount := by
  have hlt : (State.resetWith c).ptmr < (State.resetWith c).cfg.periodCount := Nat.sub_one_lt_of_lt hc
  have hzero : ticksSeen [] = 0 := rfl
  rw [ticksSeen_iterate_timebaseEvent n _ hlt]
  simp only [resetWith_history, resetWith_ptmr, resetWith_cfg, hzero, Nat.sub_self, Nat.add_zero, Nat.zero_add]

/-- Settles O19: one timebase event, then any number of them by induction on the number, from any count and from reset. -/
theorem tickEveryPeriodCountEvents : Obligations.TickEveryPeriodCountEvents :=
  ⟨fun _ => rfl, ticksSeen_iterate_timebaseEvent, fun n _ => ticksSeen_iterate_timebaseEvent_resetWith n⟩

end Sys2Proof.Machine
end

section
/-! PROOFS. The outcomes of `WTICK` (spec/45_scheduler.md R107). -/

namespace Sys2Proof.Machine

theorem execWtick_of_no_tick {s : State} (h : s.tickPend = false) : execWtick s = .next s := by
  rw [execWtick, h, if_neg Bool.false_ne_true, hold]

theorem execWtick_of_tick {s : State} (h : s.tickPend = true) : execWtick s = .next (goTo .samp0 (clearTickPend s)) := by
  rw [execWtick, if_pos h]

/-- Settles O3: the hold and the start of a cycle, each from the outcome lemma of its case. -/
theorem wtickOutcomes : Obligations.WtickOutcomes :=
  ⟨rfl, fun _ => ⟨execWtick_of_no_tick, execWtick_of_tick⟩⟩

end Sys2Proof.Machine
end

section
/-! PROOFS. What fault entry writes, and that a faulting `CALREF` or `RESID` performs none of its own writes
(spec/60_exceptions.md R128). -/

namespace Sys2Proof.Machine

namespace FaultEntered

variable {k : CauseCode} {s t : State}

theorem calRaw_eq (h : FaultEntered k s t) : t.calRaw = s.calRaw := by rw [h.rest]

theorem devId_eq (h : FaultEntered k s t) : t.devId = s.devId := by rw [h.rest]

theorem held_eq (h : FaultEntered k s t) : t.held = s.held := by rw [h.rest]

end FaultEntered

/-- A code that is 0 or outside the window makes `CALREF` fault entry and nothing more, past the taking of the answer. -/
theorem execCalref_of_fatal {s : State} {v : Nat} (hans : s.adcAns = some v) (hmax : v ≤ s.cfg.maxCode)
    (hfatal : v = 0 ∨ v < s.cfg.plausMin ∨ s.cfg.plausMax < v) : ∃ f, execCalref s = raise f (takeAdc 3 v s) := by
  by_cases h0 : v = 0
  · exact ⟨.calZero, execCalref_of_zero hans hmax h0⟩
  · exact ⟨.calImplausible, execCalref_of_implausible hans hmax h0 (hfatal.resolve_left h0)⟩

/-- Settles O15: the four entries by `raise_enters`; a faulting `CALREF` or `RESID` is fault entry from the state in which its answer
is taken, so its registers and flags stay by the frame of fault entry. -/
theorem faultEntryWrites : Obligations.FaultEntryWrites := by
  refine fun s => ⟨raise_enters .calZero s, raise_enters .calImplausible s, raise_enters .idInvalid s,
    raise_enters .seqIllegal s, fun v hans hmax hfatal => ?calref, fun b hans hunfit => ?resid⟩
  case calref =>
    obtain ⟨f, he⟩ := execCalref_of_fatal hans hmax hfatal
    obtain ⟨t, ht, hfault⟩ := raise_enters f (takeAdc 3 v s)
    obtain ⟨hcal, -⟩ := hfault.flags
    exact ⟨t, he.trans ht, hfault.flag, hfault.calRaw_eq, congrArg Held.calRaw hfault.held_eq, hcal⟩
  case resid =>
    obtain ⟨t, ht, hfault⟩ := raise_enters .idInvalid (takeStrap b s)
    obtain ⟨-, hid, -⟩ := hfault.flags
    exact ⟨t, (execResid_of_unfit hans hunfit).trans ht, hfault.flag, hfault.devId_eq,
      congrArg Held.devId hfault.held_eq, hid⟩

end Sys2Proof.Machine
end

section
/-! PROOFS. While a transmit is outstanding the core waits in `TXWAIT`, where no act but the completion does anything, so the frame
stays (spec/70_reset_and_hazards.md R152). -/

namespace Sys2Proof.Machine

/-! ## The other agents leave the frame alone -/

@[simp] theorem busComplete_txid (s : State) : (busComplete s).txid = s.txid := by
  obtain ⟨-, he⟩ | ⟨-, he⟩ := busComplete_cases s <;> rw [he]

@[simp] theorem busComplete_txbuf (s : State) : (busComplete s).txbuf = s.txbuf := by
  obtain ⟨-, he⟩ | ⟨-, he⟩ := busComplete_cases s <;> rw [he]

@[simp] theorem timebaseEvent_txid (s : State) : (timebaseEvent s).txid = s.txid := by
  obtain ⟨-, he⟩ | ⟨-, he⟩ := timebaseEvent_cases s <;> simp [he]

@[simp] theorem timebaseEvent_txbuf (s : State) : (timebaseEvent s).txbuf = s.txbuf := by
  obtain ⟨-, he⟩ | ⟨-, he⟩ := timebaseEvent_cases s <;> simp [he]

/-! ## A transmit in flight -/

/-- The stage of every other operation has `TX_BUSY` = 0. -/
theorem State.Inv.decode_seq_of_txBusy {s : State} (h : s.Inv) (hbusy : s.txBusy = true) : decode s.seq = .txwait := by
  have hstage := h.at_stage
  unfold State.stage at hstage
  cases hi : decode s.seq
  case txwait => rfl
  all_goals simp [hi, hbusy] at hstage

/-- `TXWAIT` over an outstanding transmit holds, and waits for neither an analog answer nor the strap. -/
theorem runAct_next_cases_of_in_flight {a : Act} {s t : State} (hwait : decode s.seq = .txwait) (hbusy : s.txBusy = true)
    (h : runAct a s = .next t) : t = s ∨ t = busComplete s := by
  have hcore : coreMove s = .next s := by
    rw [coreMove, hwait]
    exact execTxwait_of_busy hbusy
  obtain hidle | hdone | hmove | ⟨v, hasks, -⟩ | ⟨b, hasks, -⟩ := runAct_next_cases h
  · exact .inl hidle
  · exact .inr hdone
  · cases hcore.symm.trans hmove
    exact .inl rfl
  · cases (congrArg asksAdc hwait).symm.trans hasks
  · cases (congrArg asksStrap hwait).symm.trans hasks

theorem runAct_keeps_frame_of_in_flight {a : Act} {s t : State} (hwait : decode s.seq = .txwait) (hbusy : s.txBusy = true)
    (h : runAct a s = .next t) : t.txid = s.txid ∧ t.txbuf = s.txbuf := by
  obtain rfl | rfl := runAct_next_cases_of_in_flight hwait hbusy h
  · exact ⟨rfl, rfl⟩
  · exact ⟨busComplete_txid s, busComplete_txbuf s⟩

/-- Standing still in reset keeps the frame too, and a timebase event beside the act does not reach it. -/
theorem step_keeps_frame_of_in_flight {s t : State} (hwait : decode s.seq = .txwait) (hbusy : s.txBusy = true)
    (hno : ∀ x ∈ s.env.head?, NoReset x) (h : step s = .next t) : t.txid = s.txid ∧ t.txbuf = s.txbuf := by
  obtain ⟨a, hhead, -⟩ | ⟨-, rfl⟩ | ⟨-, a, tb, u, hact, rfl⟩ := step_next_cases h
  · exact absurd rfl (hno _ hhead a)
  · exact ⟨rfl, rfl⟩
  · have hu : u.txid = s.txid ∧ u.txbuf = s.txbuf :=
      runAct_keeps_frame_of_in_flight (s := { s with env := s.env.tail }) hwait hbusy hact
    cases tb
    · exact hu
    · simpa using hu

/-- Settles O45: the invariant puts an outstanding transmit in `TXWAIT`, and a step from there keeps the frame. -/
theorem frameStableInFlight : Obligations.FrameStableInFlight := by
  intro s t hinv hbusy hno hstep
  obtain ⟨hid, hbuf⟩ := step_keeps_frame_of_in_flight (hinv.decode_seq_of_txBusy hbusy) hbusy hno hstep
  exact ⟨hid, fun a => by rw [hbuf]⟩

end Sys2Proof.Machine
end

section
/-! PROOFS. Everything one operation can do, said once as a relation between a state and its next: the cases of each operation with
the conditions under which they come (spec/45_scheduler.md R109). -/

namespace Sys2Proof.Machine

/-- The state fault entry leads to (60_exceptions.md R128). -/
def faultEntry (f : Cause) (s : State) : State := goTo .halt (record (.fault f.code) (setFault f.code s))

theorem raise_eq_faultEntry (f : Cause) (s : State) : raise f s = .next (faultEntry f s) := rfl

theorem faultEntry_eq (f : Cause) (s : State) : faultEntry f s =
    { s with seq := 0x3, status := (setFault f.code s).status, history := s.history ++ [.fault f.code] } :=
  Host.Outcome.next.inj (raise_eq f s)

@[simp] theorem faultEntry_seq (f : Cause) (s : State) : (faultEntry f s).seq = encode .halt := rfl

/-- The operation `SAMP c` makes control go to (45_scheduler.md R109). -/
def sampSuccessor : Channel → Instr
  | .ch0 => .samp1
  | .ch1 => .samp2
  | .ch2 => .conv0

/-- `Move s i t`: in `s` the operation `i` answers the next state `t`. -/
inductive Move (s : State) : Instr → State → Prop
  /-- an analog read whose answer has not come holds -/
  | adcPending {i : Instr} (hasks : asksAdc i = true) (hline : adcLine s = none) : Move s i s
  /-- `CALREF` reads the code 0 -/
  | calZero (hline : adcLine s = some 0) : Move s .calref (faultEntry .calZero (takeAdc 3 0 s))
  /-- `CALREF` reads a code outside the window -/
  | calImplausible {v : Nat} (hline : adcLine s = some v) (hpos : v ≠ 0) (hout : plausible s.cfg v = false) :
    Move s .calref (faultEntry .calImplausible (takeAdc 3 v s))
  /-- `CALREF` latches a plausible code -/
  | calibrated {v : Nat} (hline : adcLine s = some v) (hpos : v ≠ 0) (hin : plausible s.cfg v = true) :
    Move s .calref (goTo .resid (setCalValid (writeCalRaw v (takeAdc 3 v s))))
  /-- the strap read holds until answered -/
  | strapPending (hans : s.strapAns = none) : Move s .resid s
  /-- the selected identity does not fit -/
  | idInvalid {b : Bool} (hans : s.strapAns = some b) (hwide : maxIdentity < strapIdentity s.cfg b) :
    Move s .resid (faultEntry .idInvalid (takeStrap b s))
  /-- the selected identity is latched -/
  | identified {b : Bool} (hans : s.strapAns = some b) (hfits : strapIdentity s.cfg b ≤ maxIdentity) :
    Move s .resid (goTo .wtick (setIdValid (writeDevId (BitVec.ofNat 11 (strapIdentity s.cfg b)) (takeStrap b s))))
  /-- `WTICK` holds while no tick is pending -/
  | noTick (htick : s.tickPend = false) : Move s .wtick s
  /-- `WTICK` consumes the pending tick -/
  | tickTaken (htick : s.tickPend = true) : Move s .wtick (goTo .samp0 (clearTickPend s))
  /-- `HALT` holds -/
  | halted : Move s .halt s
  /-- `SAMP c` stores the code it reads -/
  | sampled (c : Channel) {v : Nat} (hline : adcLine s = some v) :
    Move s (sampOf c) (goTo (sampSuccessor c) (writeRaw c v (takeAdc (channelSelect c) v s)))
  /-- `CONV c` writes its reading -/
  | converted (c : Channel) {v : Millivolts} (hv : reading (s.raw.get c) s.cfg.refMv s.calRaw = .ok v) :
    Move s (convOf c) (goTo (convSuccessor c) (writeMv c v s))
  /-- `ENC` writes the frame -/
  | encoded : Move s .enc (goTo .txreq { writeTxid s.devId s with txbuf := packedFrame s.mv s.txbuf })
  /-- `TXREQ` hands the frame over -/
  | handedOver {p : Payload} (hp : memRead 0 .eight s.txbuf = .ok p) :
    Move s .txreq (goTo .txwait (busTransmit s.txid p s))
  /-- `TXWAIT` holds while the transmit is outstanding -/
  | busBusy (hbusy : s.txBusy = true) : Move s .txwait s
  /-- `TXWAIT` ends the cycle -/
  | cycleDone (hbusy : s.txBusy = false) : Move s .txwait (goTo .wtick s)
  /-- a reserved code takes the fault -/
  | illegal {i : Instr} (hi : i.isOperation = false) : Move s i (faultEntry .seqIllegal s)

/-! ## Each operation moves as the relation says -/

/-- An analog read as its line decides it. -/
theorem withAdcRead_line_cases (sel : TwoBits) (k : Nat → State → Result) (s : State) :
    (adcLine s = none ∧ withAdcRead sel k s = .next s) ∨
    (∃ v, adcLine s = some v ∧ withAdcRead sel k s = k v (takeAdc sel v s)) := by
  obtain h | ⟨v, hans, hmax, he⟩ := withAdcRead_cases sel k s
  · exact .inl h
  · exact .inr ⟨v, (adcLine_eq_some_iff s v).mpr ⟨hans, hmax⟩, he⟩

theorem execCalref_moves (s : State) : ∃ t, execCalref s = .next t ∧ Move s .calref t := by
  obtain ⟨hline, he⟩ | ⟨v, hline, -⟩ := withAdcRead_line_cases referenceSelect _ s
  · exact ⟨_, he, .adcPending rfl hline⟩
  · obtain ⟨hans, hmax⟩ := (adcLine_eq_some_iff s v).mp hline
    have he := execCalref_of_answer hans hmax
    by_cases h0 : v = 0
    · subst h0
      exact ⟨_, he, .calZero hline⟩
    · rw [if_neg h0] at he
      cases hwin : plausible s.cfg v <;> rw [hwin] at he
      · exact ⟨_, he, .calImplausible hline h0 hwin⟩
      · exact ⟨_, he, .calibrated hline h0 hwin⟩

theorem execResid_moves (s : State) : ∃ t, execResid s = .next t ∧ Move s .resid t := by
  cases hans : s.strapAns with
  | none => exact ⟨_, execResid_of_no_answer hans, .strapPending hans⟩
  | some b =>
    rcases Nat.lt_or_ge maxIdentity (strapIdentity s.cfg b) with hwide | hfits
    · exact ⟨_, execResid_of_unfit hans hwide, .idInvalid hans hwide⟩
    · exact ⟨_, execResid_of_fits hans hfits, .identified hans hfits⟩

theorem execWtick_moves (s : State) : ∃ t, execWtick s = .next t ∧ Move s .wtick t := by
  cases htick : s.tickPend
  · exact ⟨_, execWtick_of_no_tick htick, .noTick htick⟩
  · exact ⟨_, execWtick_of_tick htick, .tickTaken htick⟩

theorem eq_of_asksAdc {i : Instr} (h : asksAdc i = true) : i = .calref ∨ ∃ c, i = sampOf c := by
  cases i <;> cases h
  exacts [.inl rfl, .inr ⟨.ch0, rfl⟩, .inr ⟨.ch1, rfl⟩, .inr ⟨.ch2, rfl⟩]

theorem eq_of_not_isOperation {i : Instr} (h : i.isOperation = false) : i = .reserved7 ∨ i = .reservedB ∨ i = .reservedF := by
  cases i <;> cases h
  exacts [.inl rfl, .inr (.inl rfl), .inr (.inr rfl)]

theorem asksAdc_sampOf (c : Channel) : asksAdc (sampOf c) = true := by
  cases c <;> rfl

theorem exec_sampOf (c : Channel) (s : State) : exec (sampOf c) s = sampleChannel c (sampSuccessor c) s := by
  cases c <;> rfl

theorem exec_sampOf_moves (c : Channel) (s : State) : ∃ t, exec (sampOf c) s = .next t ∧ Move s (sampOf c) t := by
  rw [exec_sampOf]
  obtain ⟨hline, he⟩ | ⟨v, hline, he⟩ := withAdcRead_line_cases (channelSelect c) _ s
  · exact ⟨_, he, .adcPending (asksAdc_sampOf c) hline⟩
  · exact ⟨_, he, .sampled c hline⟩

theorem exec_convOf_cases (c : Channel) (s : State) :
    (∃ t, exec (convOf c) s = .next t ∧ Move s (convOf c) t) ∨
    (reading (s.raw.get c) s.cfg.refMv s.calRaw = .error .quotientTooWide ∧
      exec (convOf c) s = .fault .quotientTooWide) := by
  rw [exec_convOf]
  obtain ⟨v, hv, he⟩ | hwide := convertChannel_cases c (convSuccessor c) s
  · exact .inl ⟨_, he, .converted c hv⟩
  · exact .inr hwide

theorem execTxreq_cases (s : State) :
    (∃ p, memRead 0 .eight s.txbuf = .ok p ∧ execTxreq s = .next (goTo .txwait (busTransmit s.txid p s))) ∨
    ((∃ a < payloadLen, s.txbuf.read a = none) ∧ execTxreq s = .fault .frameByteUnwritten) := by
  unfold execTxreq
  obtain ⟨-, -, p, hp⟩ | ⟨-, ⟨a, -, ha, hnone⟩, he⟩ | ⟨hout, -⟩ := memRead_cases 0 .eight s.txbuf
  · exact .inl ⟨p, hp, by rw [hp]⟩
  · exact .inr ⟨⟨a, ha, hnone⟩, by rw [he]⟩
  · exact absurd hout (by decide)

theorem execTxwait_moves (s : State) : ∃ t, execTxwait s = .next t ∧ Move s .txwait t := by
  cases hbusy : s.txBusy
  · exact ⟨_, execTxwait_of_not_busy hbusy, .cycleDone hbusy⟩
  · exact ⟨_, execTxwait_of_busy hbusy, .busBusy hbusy⟩

/-- An operation moves, but for `CONV c` over a quotient too wide and `TXREQ` over a byte that nothing has written. -/
theorem exec_cases (i : Instr) (s : State) :
    (∃ t, exec i s = .next t ∧ Move s i t) ∨
    (∃ c, i = convOf c ∧ reading (s.raw.get c) s.cfg.refMv s.calRaw = .error .quotientTooWide ∧
      exec i s = .fault .quotientTooWide) ∨
    (i = .txreq ∧ (∃ a < payloadLen, s.txbuf.read a = none) ∧ exec i s = .fault .frameByteUnwritten) := by
  cases i
  case calref => exact .inl (execCalref_moves s)
  case resid => exact .inl (execResid_moves s)
  case wtick => exact .inl (execWtick_moves s)
  case halt => exact .inl ⟨s, rfl, .halted⟩
  case samp0 => exact .inl (exec_sampOf_moves .ch0 s)
  case samp1 => exact .inl (exec_sampOf_moves .ch1 s)
  case samp2 => exact .inl (exec_sampOf_moves .ch2 s)
  case conv0 => exact (exec_convOf_cases .ch0 s).imp_right fun h => .inl ⟨.ch0, rfl, h⟩
  case conv1 => exact (exec_convOf_cases .ch1 s).imp_right fun h => .inl ⟨.ch1, rfl, h⟩
  case conv2 => exact (exec_convOf_cases .ch2 s).imp_right fun h => .inl ⟨.ch2, rfl, h⟩
  case enc => exact .inl ⟨_, exec_enc s, .encoded⟩
  case txreq =>
    obtain ⟨p, hp, he⟩ | h := execTxreq_cases s
    · exact .inl ⟨_, he, .handedOver hp⟩
    · exact .inr (.inr ⟨rfl, h⟩)
  case txwait => exact .inl (execTxwait_moves s)
  case reserved7 | reservedB | reservedF => exact .inl ⟨_, rfl, .illegal rfl⟩

theorem move_of_exec {i : Instr} {s t : State} (h : exec i s = .next t) : Move s i t := by
  obtain ⟨u, hu, hmove⟩ | ⟨c, -, -, he⟩ | ⟨-, -, he⟩ := exec_cases i s
  · cases hu.symm.trans h
    exact hmove
  · cases he.symm.trans h
  · cases he.symm.trans h

end Sys2Proof.Machine
end

section
/-! PROOFS. Every step keeps the invariant, and none stops (spec/10_state.md section 8, spec/45_scheduler.md section 2). The invariant
falls into what its registers say, which each update of the state keeps by itself, and what holds at the operation `SEQ` selects. -/

namespace Sys2Proof.Machine

/-! ## The registers -/

/-- What the invariant says of the registers: all of it but the answer lines and the stage. -/
structure State.Sound (s : State) : Prop where
  cfg_wf : s.cfg.wf = true
  txbuf_wf : s.txbuf.wf
  reserved_zero : s.status.getLsbD 7 = false
  cause_zero : s.faultFlag = false → s.cause = 0
  ptmr_range : s.ptmr < s.cfg.periodCount
  raw_range : ∀ c, s.raw.get c ≤ s.cfg.maxCode
  cal_range : s.calRaw ≤ s.cfg.maxCode
  cal_plausible : s.calValid = true → plausible s.cfg s.calRaw = true ∧ s.held.calRaw = true
  id_legal : s.idValid = true →
    (s.devId.toNat = s.cfg.idStrapHigh ∨ s.devId.toNat = s.cfg.idStrapLow) ∧ s.held.devId = true

theorem State.Inv.sound {s : State} (h : s.Inv) : s.Sound := { h with }

theorem State.Sound.inv {s : State} (h : s.Sound) (hlines : s.adcAns = none ∧ s.strapAns = none) (hstage : s.stage) : s.Inv :=
  { h with lines_clear := hlines, at_stage := hstage }

namespace State.Sound

variable {s : State} (h : s.Sound)
include h

/-- An update of `STATUS` that leaves startup's two flags, the fault and the reserved bit alone. -/
theorem with_status (w : StatusWord) (h7 : w.getLsbD 7 = s.status.getLsbD 7) (h3 : w.getLsbD 3 = s.status.getLsbD 3)
    (hcause : w.extractLsb' 4 3 = s.status.extractLsb' 4 3) (h0 : w.getLsbD 0 = s.status.getLsbD 0)
    (h1 : w.getLsbD 1 = s.status.getLsbD 1) : State.Sound { s with status := w } :=
  { h with
    reserved_zero := h7.trans h.reserved_zero
    cause_zero := fun hf => hcause.trans (h.cause_zero (h3.symm.trans hf))
    cal_plausible := fun hv => h.cal_plausible (h0.symm.trans hv)
    id_legal := fun hv => h.id_legal (h1.symm.trans hv) }

theorem setTickPend : (setTickPend s).Sound := by
  obtain ⟨h0, h1, -, h3, hcause, h7⟩ := word_or_four s.status
  exact h.with_status _ h7 h3 hcause h0 h1

theorem clearTickPend : (clearTickPend s).Sound := by
  obtain ⟨h0, h1, -, h3, hcause, h7⟩ := word_clear_four s.status
  exact h.with_status _ h7 h3 hcause h0 h1

/-- A raw code stored in a channel's register. -/
theorem writeRaw (c : Channel) {v : Nat} (hv : v ≤ s.cfg.maxCode) : (writeRaw c v s).Sound :=
  { h with
    raw_range := fun d => by
      by_cases hd : d = c
      · subst hd; simpa using hv
      · simpa [PerChannel.get_set_other _ _ hd] using h.raw_range d }

/-- `CALREF`'s latch of a plausible code. -/
theorem latchCal {v : Nat} (hv : v ≤ s.cfg.maxCode) (hin : plausible s.cfg v = true) :
    (setCalValid (writeCalRaw v s)).Sound := by
  obtain ⟨-, h1, -, h3, hcause, h7⟩ := word_or_one s.status
  exact { h with
    reserved_zero := h7.trans h.reserved_zero
    cause_zero := fun hf => hcause.trans (h.cause_zero (h3.symm.trans hf))
    cal_range := hv
    cal_plausible := fun _ => ⟨hin, rfl⟩
    id_legal := fun hid => h.id_legal (h1.symm.trans hid) }

/-- `RESID`'s latch of a configured identity that fits. -/
theorem latchId {b : Bool} (hfits : strapIdentity s.cfg b ≤ maxIdentity) :
    (setIdValid (writeDevId (BitVec.ofNat 11 (strapIdentity s.cfg b)) s)).Sound := by
  obtain ⟨h0, -, -, h3, hcause, h7⟩ := word_or_two s.status
  have hnum : (BitVec.ofNat 11 (strapIdentity s.cfg b)).toNat = strapIdentity s.cfg b :=
    BitVec.toNat_ofNat _ _ |>.trans (Nat.mod_eq_of_lt (Nat.lt_succ_of_le hfits))
  exact { h with
    reserved_zero := h7.trans h.reserved_zero
    cause_zero := fun hf => hcause.trans (h.cause_zero (h3.symm.trans hf))
    cal_plausible := fun hcal => h.cal_plausible (h0.symm.trans hcal)
    id_legal := fun _ => ⟨by cases b; exacts [.inr hnum, .inl hnum], rfl⟩ }

/-- Fault entry sets `FAULT`, so `CAUSE` is free, and writes no register. -/
theorem faultEntry (f : Cause) : (faultEntry f s).Sound := by
  obtain ⟨hcal, hid, -, hflag, -⟩ := setFault_fields f.code s
  obtain ⟨-, -, -, -, h7⟩ := status_updates_keep_reserved f.code s
  rw [faultEntry_eq]
  exact { h with
    reserved_zero := h7.trans h.reserved_zero
    cause_zero := fun hf => Bool.noConfusion (hflag.symm.trans hf)
    cal_plausible := fun hv => h.cal_plausible (hcal.symm.trans hv)
    id_legal := fun hv => h.id_legal (hid.symm.trans hv) }

/-- What the operation writes it keeps in range. -/
theorem of_move {i : Instr} {t : State} (hmove : Move s i t) : t.Sound := by
  cases hmove with
  | adcPending | strapPending | noTick | halted | busBusy => exact h
  | calZero => exact State.Sound.faultEntry (s := takeAdc _ _ s) { h with } _
  | calImplausible => exact State.Sound.faultEntry (s := takeAdc _ _ s) { h with } _
  | calibrated hline _ hin =>
    obtain ⟨-, hmax⟩ := (adcLine_eq_some_iff s _).mp hline
    exact { State.Sound.latchCal (s := takeAdc _ _ s) { h with } hmax hin with }
  | idInvalid => exact State.Sound.faultEntry (s := takeStrap _ s) { h with } _
  | identified _ hfits => exact { State.Sound.latchId (s := takeStrap _ s) { h with } hfits with }
  | tickTaken => exact { h.clearTickPend with }
  | sampled c hline =>
    obtain ⟨-, hmax⟩ := (adcLine_eq_some_iff s _).mp hline
    exact { State.Sound.writeRaw (s := takeAdc _ _ s) { h with } c hmax with }
  | converted | handedOver | cycleDone => exact { h with }
  | encoded => exact { h with txbuf_wf := packReadings_wf h.txbuf_wf (packReadings_eq_packedFrame _ _) }
  | illegal => exact h.faultEntry _

end State.Sound

/-! ## The stage -/

/-- The stage reads `SEQ`, the flags, `TX_BUSY`, the marks and the frame buffer. -/
theorem State.stage_congr {s t : State} (hseq : t.seq = s.seq) (hcal : t.calValid = s.calValid) (hid : t.idValid = s.idValid)
    (hflag : t.faultFlag = s.faultFlag) (hcause : t.cause = s.cause) (hbusy : t.txBusy = s.txBusy) (hheld : t.held = s.held)
    (hbuf : t.txbuf = s.txbuf) : t.stage ↔ s.stage := by
  unfold State.stage State.running
  rw [hseq, hcal, hid, hflag, hcause, hbusy, hheld, hbuf]

/-- No stage admits a reserved code. -/
theorem isOperation_of_stage {s : State} (h : s.stage) : (decode s.seq).isOperation = true := by
  unfold State.stage at h
  cases hi : decode s.seq
  case reserved7 | reservedB | reservedF =>
    rw [hi] at h
    exact h.elim
  all_goals rfl

/-- A fault entered during startup halts the core as the invariant says. -/
theorem stage_faultEntry {s : State} {f : Cause} (hf : f ≠ .seqIllegal) (hflag : s.faultFlag = false)
    (hid : s.idValid = false) (hbusy : s.txBusy = false) : (faultEntry f s).stage := by
  obtain ⟨-, hid', -, hflag', hcause'⟩ := setFault_fields f.code s
  rw [hflag, if_neg Bool.false_ne_true] at hcause'
  have hcode : f.code = 1 ∨ f.code = 2 ∨ f.code = 3 := by
    cases f <;> simp [Cause.code] at hf ⊢
  simp only [State.stage, faultEntry_seq, decode_encode]
  rw [← hcause'] at hcode
  rw [faultEntry_eq]
  exact ⟨hflag', hcode, hid'.trans hid, hbusy⟩

/-- Each operation establishes what holds at its successor. -/
theorem Move.stage {i : Instr} {s t : State} (hi : decode s.seq = i) (hwf : s.txbuf.wf) (h : s.stage) (hmove : Move s i t) :
    t.stage := by
  have hs := h
  unfold State.stage at hs
  rw [hi] at hs
  cases hmove with
  | adcPending | strapPending | noTick | halted | busBusy => exact h
  | calZero =>
    obtain ⟨-, hid, hflag, hbusy⟩ := hs
    exact stage_faultEntry (by decide) hflag hid hbusy
  | calImplausible =>
    obtain ⟨-, hid, hflag, hbusy⟩ := hs
    exact stage_faultEntry (by decide) hflag hid hbusy
  | idInvalid =>
    obtain ⟨-, hid, hflag, hbusy⟩ := hs
    exact stage_faultEntry (by decide) hflag hid hbusy
  | calibrated =>
    obtain ⟨-, hid, hflag, hbusy⟩ := hs
    obtain ⟨hcal', hid', -, hflag', -⟩ := setCalValid_fields s
    simp only [State.stage, goTo_seq, decode_encode]
    exact ⟨hcal', hid'.trans hid, hflag'.trans hflag, hbusy⟩
  | identified =>
    obtain ⟨hcal, -, hflag, hbusy⟩ := hs
    obtain ⟨hcal', hid', -, hflag', -⟩ := setIdValid_fields s
    simp only [State.stage, goTo_seq, decode_encode]
    exact ⟨⟨hcal'.trans hcal, hid', hflag'.trans hflag⟩, hbusy⟩
  | tickTaken =>
    obtain ⟨⟨hcal, hid, hflag⟩, hbusy⟩ := hs
    obtain ⟨hcal', hid', -, hflag', -⟩ := clearTickPend_fields s
    simp only [State.stage, goTo_seq, decode_encode]
    exact ⟨⟨hcal'.trans hcal, hid'.trans hid, hflag'.trans hflag⟩, hbusy⟩
  | sampled c =>
    cases c <;> simp only [sampOf] at hs <;> simp only [State.stage, sampSuccessor, goTo_seq, decode_encode]
    case ch0 =>
      obtain ⟨hrun, hbusy⟩ := hs
      exact ⟨hrun, hbusy, rfl⟩
    case ch1 =>
      obtain ⟨hrun, hbusy, hraw0⟩ := hs
      exact ⟨hrun, hbusy, hraw0, rfl⟩
    case ch2 =>
      obtain ⟨hrun, hbusy, hraw0, hraw1⟩ := hs
      exact ⟨hrun, hbusy, PerChannel.ext_get (by intro c; cases c; exacts [hraw0, hraw1, rfl])⟩
  | converted c =>
    cases c <;> simp only [convOf] at hs <;> simp only [State.stage, convSuccessor, goTo_seq, decode_encode]
    case ch0 =>
      obtain ⟨hrun, hbusy, hraw⟩ := hs
      exact ⟨hrun, hbusy, hraw, rfl⟩
    case ch1 =>
      obtain ⟨hrun, hbusy, hraw, hmv0⟩ := hs
      exact ⟨hrun, hbusy, hraw, hmv0, rfl⟩
    case ch2 =>
      obtain ⟨hrun, hbusy, -, hmv0, hmv1⟩ := hs
      exact ⟨hrun, hbusy, PerChannel.ext_get (by intro c; cases c; exacts [hmv0, hmv1, rfl])⟩
  | encoded =>
    obtain ⟨hrun, hbusy, -⟩ := hs
    simp only [State.stage, goTo_seq, decode_encode]
    refine ⟨hrun, hbusy, rfl, fun a ha => ?_⟩
    replace ha : a < 8 := ha
    rw [goTo_txbuf, read_packedFrame _ hwf, if_pos ha, Option.isSome_some]
  | handedOver =>
    obtain ⟨hrun, -⟩ := hs
    simp only [State.stage, goTo_seq, decode_encode]
    exact hrun
  | cycleDone hbusy =>
    simp only [State.stage, goTo_seq, decode_encode]
    exact ⟨hs, hbusy⟩
  | illegal hillegal =>
    have hoperation := isOperation_of_stage h
    rw [hi, hillegal] at hoperation
    cases hoperation

/-! ## CORE's move -/

theorem asksStrap_of_asksAdc {i : Instr} (h : asksAdc i = true) : asksStrap i = false := by
  obtain rfl | ⟨c, rfl⟩ := eq_of_asksAdc h
  · rfl
  · cases c <;> rfl

theorem asks_nothing_of_not_isOperation {i : Instr} (h : i.isOperation = false) : asksAdc i = false ∧ asksStrap i = false := by
  obtain rfl | rfl | rfl := eq_of_not_isOperation h <;> exact ⟨rfl, rfl⟩

/-- An operation leaves no answer on a line but one that it does not ask for. -/
theorem Move.lines_clear {i : Instr} {s t : State} (hmove : Move s i t)
    (hadc : s.adcAns = none ∨ asksAdc i = true ∧ ∃ v, adcLine s = some v) (hstrap : s.strapAns = none ∨ asksStrap i = true) :
    t.adcAns = none ∧ t.strapAns = none := by
  have hadc0 (h : asksAdc i = false) : s.adcAns = none :=
    hadc.resolve_right fun ⟨hasks, _⟩ => Bool.noConfusion (h.symm.trans hasks)
  have hstrap0 (h : asksStrap i = false) : s.strapAns = none :=
    hstrap.resolve_right fun hasks => Bool.noConfusion (h.symm.trans hasks)
  cases hmove with
  | adcPending hasks hline =>
    refine ⟨hadc.resolve_right fun ⟨_, v, hv⟩ => ?_, hstrap0 (asksStrap_of_asksAdc hasks)⟩
    cases hline.symm.trans hv
  | calZero | calImplausible => simpa [faultEntry_eq] using hstrap0 rfl
  | calibrated => exact ⟨rfl, hstrap0 rfl⟩
  | strapPending hans => exact ⟨hadc0 rfl, hans⟩
  | idInvalid => simpa [faultEntry_eq] using hadc0 rfl
  | identified => exact ⟨hadc0 rfl, rfl⟩
  | sampled c => exact ⟨rfl, hstrap0 (asksStrap_of_asksAdc (asksAdc_sampOf c))⟩
  | converted c => exact ⟨hadc0 (by cases c <;> rfl), hstrap0 (by cases c <;> rfl)⟩
  | noTick | tickTaken | halted | encoded | handedOver | busBusy | cycleDone => exact ⟨hadc0 rfl, hstrap0 rfl⟩
  | illegal hillegal =>
    obtain ⟨hadcNot, hstrapNot⟩ := asks_nothing_of_not_isOperation hillegal
    rw [faultEntry_eq]
    exact ⟨hadc0 hadcNot, hstrap0 hstrapNot⟩

/-- An act did nothing, completed the transmit, or let CORE move, with no answer on a line but an awaited one and those that stood
there. -/
theorem runAct_moves {a : Act} {s t : State} (h : runAct a s = .next t) :
    t = s ∨ t = busComplete s ∨
    ∃ adc strap, Move { s with adcAns := adc, strapAns := strap } (decode s.seq) t ∧
      (adc = s.adcAns ∨ asksAdc (decode s.seq) = true ∧ ∃ v ≤ s.cfg.maxCode, adc = some v) ∧
      (strap = s.strapAns ∨ asksStrap (decode s.seq) = true) := by
  obtain h | h | h | ⟨v, hasks, hv, h⟩ | ⟨b, hasks, h⟩ := runAct_next_cases h
  · exact .inl h
  · exact .inr (.inl h)
  · exact .inr (.inr ⟨_, _, move_of_exec h, .inl rfl, .inl rfl⟩)
  · exact .inr (.inr ⟨_, _, move_of_exec h, .inr ⟨hasks, v, hv, rfl⟩, .inl rfl⟩)
  · exact .inr (.inr ⟨_, _, move_of_exec h, .inl rfl, .inr hasks⟩)

/-! ## One act, one step -/

namespace State.Inv

variable {s t : State} (h : s.Inv)
include h

theorem busComplete : (busComplete s).Inv := by
  obtain ⟨hbusy, he⟩ | ⟨-, he⟩ := busComplete_cases s <;> rw [he]
  · refine State.Sound.inv { h.sound with } h.lines_clear ?_
    have hstage := h.at_stage
    simp only [State.stage, h.decode_seq_of_txBusy hbusy] at hstage ⊢
    exact hstage
  · exact h

theorem timebaseEvent : (timebaseEvent s).Inv := by
  have hperiod : s.cfg.periodCount - 1 < s.cfg.periodCount := Nat.sub_one_lt_of_lt h.ptmr_range
  obtain ⟨-, he⟩ | ⟨-, he⟩ := timebaseEvent_cases s <;> rw [he]
  · have hreload : State.Sound { s with ptmr := s.cfg.periodCount - 1 } := { h.sound with ptmr_range := hperiod }
    obtain ⟨hcal, hid, -, hflag, hcause⟩ := setTickPend_fields s
    refine State.Sound.inv { hreload.setTickPend with } h.lines_clear ((State.stage_congr ?_ ?_ ?_ ?_ ?_ ?_ ?_ ?_).mpr h.at_stage)
    exacts [rfl, hcal, hid, hflag, hcause, rfl, rfl, rfl]
  · exact { h with ptmr_range := (Nat.sub_le _ _).trans_lt h.ptmr_range }

theorem of_runAct {a : Act} (hact : runAct a s = .next t) : t.Inv := by
  obtain rfl | rfl | ⟨adc, strap, hmove, hadc, hstrap⟩ := runAct_moves hact
  · exact h
  · exact h.busComplete
  · obtain ⟨hadc0, hstrap0⟩ := h.lines_clear
    have hsound : State.Sound { s with adcAns := adc, strapAns := strap } := { h.sound with }
    have hlines := hmove.lines_clear
      (hadc.imp (·.trans hadc0) fun ⟨hasks, v, hv, hans⟩ => ⟨hasks, v, (adcLine_eq_some_iff _ v).mpr ⟨hans, hv⟩⟩)
      (hstrap.imp_left (·.trans hstrap0))
    have hstage := hmove.stage (s := { s with adcAns := adc, strapAns := strap }) rfl h.txbuf_wf h.at_stage
    exact (hsound.of_move hmove).inv hlines hstage

end State.Inv

@[simp] theorem resetWith_flags (c : Config) : (State.resetWith c).calValid = false ∧ (State.resetWith c).idValid = false ∧
    (State.resetWith c).tickPend = false ∧ (State.resetWith c).faultFlag = false ∧ (State.resetWith c).cause = 0 := by
  simp [State.calValid, State.idValid, State.tickPend, State.faultFlag, State.cause]

/-- The state after reset meets the invariant, in any configuration that is well formed. -/
theorem inv_resetWith {c : Config} (hc : c.wf = true) : (State.resetWith c).Inv where
  cfg_wf := hc
  txbuf_wf := ⟨.nil, nofun⟩
  reserved_zero := by simp
  cause_zero := by simp
  ptmr_range := by
    obtain ⟨-, -, -, -, -, hperiod⟩ := c.wf_iff.mp hc
    exact Nat.sub_one_lt_of_lt hperiod
  raw_range c := by simp
  cal_range := Nat.zero_le _
  cal_plausible := by simp
  id_legal := by simp
  lines_clear := ⟨rfl, rfl⟩
  at_stage := by
    simp [State.stage, show decode 0x0#4 = .calref from rfl]

namespace State.Inv

variable {s t : State} (h : s.Inv)
include h

theorem resetInput (a : Bool) : (resetInput a s).Inv := by
  cases a
  · exact { h with }
  · exact { inv_resetWith h.cfg_wf with }

theorem of_step (hstep : step s = .next t) : t.Inv := by
  have htail : State.Inv { s with env := s.env.tail } := { h with }
  obtain ⟨a, -, rfl⟩ | ⟨-, rfl⟩ | ⟨-, a, tb, u, hact, rfl⟩ := step_next_cases hstep
  · exact htail.resetInput a
  · exact htail
  · have hu : u.Inv := htail.of_runAct hact
    cases tb
    · exact hu
    · exact hu.timebaseEvent

end State.Inv

/-- Settles O39: each agent's act keeps the invariant, CORE's through the cases of its move. -/
theorem stepKeepsTheInvariant : Obligations.StepKeepsTheInvariant :=
  fun _ _ h hstep => h.of_step hstep

end Sys2Proof.Machine
end

section
/-! PROOFS. From a state the invariant allows no step stops, no unwritten register is read, and at most one request is outstanding
(spec/10_state.md section 8, spec/20_memory.md section 6). -/

namespace Sys2Proof.Machine

/-- Past startup the core is running. -/
theorem running_of_stage {s : State} (h : s.stage)
    (hi : decode s.seq ≠ .calref ∧ decode s.seq ≠ .resid ∧ decode s.seq ≠ .halt) : s.running := by
  obtain ⟨hcalref, hresid, hhalt⟩ := hi
  unfold State.stage at h
  cases hop : decode s.seq
  case calref => exact absurd hop hcalref
  case resid => exact absurd hop hresid
  case halt => exact absurd hop hhalt
  case reserved7 | reservedB | reservedF =>
    rw [hop] at h
    exact h.elim
  case txwait =>
    rw [hop] at h
    exact h
  all_goals
    rw [hop] at h
    obtain ⟨hrun, -⟩ := h
    exact hrun

theorem txbuf_written_of_stage {s : State} (h : s.stage) (hi : decode s.seq = .txreq) :
    s.held.txid = true ∧ ∀ a < payloadLen, (s.txbuf.read a).isSome = true := by
  unfold State.stage at h
  rw [hi] at h
  obtain ⟨-, -, hwritten⟩ := h
  exact hwritten

namespace State.Inv

variable {s t : State} (h : s.Inv)
include h

theorem calValid_of_conv {c : Channel} (hi : decode s.seq = convOf c) : s.calValid = true := by
  obtain ⟨hcal, -⟩ : s.running := running_of_stage h.at_stage (by rw [hi]; cases c <;> decide)
  exact hcal

/-- Whatever is on its lines, the operation the invariant allows at `SEQ` answers a next state. -/
theorem exec_answers (adc : Option Nat) (strap : Option Bool) :
    ∃ t, exec (decode s.seq) { s with adcAns := adc, strapAns := strap } = .next t := by
  obtain ⟨t, ht, -⟩ | ⟨c, hi, hwide, -⟩ | ⟨hi, ⟨a, ha, hnone⟩, -⟩ :=
    exec_cases (decode s.seq) { s with adcAns := adc, strapAns := strap }
  · exact ⟨t, ht⟩
  · have hcal := h.calValid_of_conv hi
    have hfits := (h.toMv_le_largest hcal c).trans_lt (Config.largest_quotient_lt h.cfg_wf)
    cases (reading_of_fits (h.calRaw_ne_zero hcal) hfits).symm.trans hwide
  · obtain ⟨-, hwritten⟩ := txbuf_written_of_stage h.at_stage hi
    have hsome := hwritten a ha
    rw [hnone] at hsome
    cases hsome

theorem runAct_answers (a : Act) : ∃ t, runAct a s = .next t := by
  cases a with
  | core => exact h.exec_answers _ _
  | adcAnswer life v =>
    obtain ⟨-, he⟩ | ⟨-, he⟩ := respond_cases life (adcAnswers v) s
    · rw [runAct, he, adcAnswers]
      split
      · exact h.exec_answers _ _
      · exact ⟨s, rfl⟩
    · exact ⟨s, he⟩
  | strapAnswer life b =>
    obtain ⟨-, he⟩ | ⟨-, he⟩ := respond_cases life (strapAnswers b) s
    · rw [runAct, he, strapAnswers]
      split
      · exact h.exec_answers _ _
      · exact ⟨s, rfl⟩
    · exact ⟨s, he⟩
  | busDone life =>
    obtain ⟨-, he⟩ | ⟨-, he⟩ := respond_cases life (fun u => .next (Machine.busComplete u)) s
    · exact ⟨_, he⟩
    · exact ⟨s, he⟩
  | idle => exact ⟨s, rfl⟩

theorem step_answers : ∃ t, step s = .next t := by
  obtain ⟨hwf, -⟩ | ⟨-, x, u, hx, hcase⟩ := step_cases s
  · cases h.cfg_wf.symm.trans hwf
  · have hu : u = { s with env := s.env.tail } := by rw [← nextInstant_state, hx]
    have hinv : u.Inv := hu ▸ { h with }
    obtain ⟨a, -, he⟩ | ⟨a, tb, -, -, he⟩ | ⟨a, tb, -, -, he⟩ := hcase
    · exact ⟨_, he⟩
    · exact ⟨_, he⟩
    · obtain ⟨t, ht⟩ := hinv.runAct_answers a
      exact ⟨_, he.trans ((thenTimebase_next_iff tb _ _).mpr ⟨t, ht, rfl⟩)⟩

end State.Inv

/-- Settles O40: the two ways an operation can stop are outside the invariant, and a step keeps it. -/
theorem invariantStatesAlwaysStep : Obligations.InvariantStatesAlwaysStep := by
  intro s h
  obtain ⟨t, ht⟩ := h.step_answers
  exact ⟨t, ht, h.of_step ht⟩

/-- Settles O41: the marks each operation reads are those its stage requires, or those of a finished startup. -/
theorem noUnwrittenRegisterIsRead : Obligations.NoUnwrittenRegisterIsRead := by
  intro s h
  have hcal : s.running → s.held.calRaw = true := fun ⟨hvalid, _⟩ => (h.cal_plausible hvalid).2
  have hid : s.running → s.held.devId = true := fun ⟨_, hvalid, _⟩ => (h.id_legal hvalid).2
  have hs := h.at_stage
  unfold State.stage at hs
  unfold ReadsOnlyWritten
  cases hi : decode s.seq <;> rw [hi] at hs
  case conv0 | conv1 | conv2 =>
    obtain ⟨hrun, -, hraw⟩ := hs
    simp [hraw, hcal hrun, PerChannel.all]
  case enc =>
    obtain ⟨hrun, -, hmv⟩ := hs
    exact ⟨hmv, hid hrun⟩
  case txreq =>
    exact txbuf_written_of_stage h.at_stage hi
  all_goals trivial

/-- Settles O46: a transmit is outstanding only in `TXWAIT`, which asks nothing, and every other operation asks at most once. -/
theorem oneRequestOutstanding : Obligations.OneRequestOutstanding := by
  intro s h
  cases hreset : s.resetIn
  case true => simp [requests_of_resetIn hreset]
  cases hbusy : s.txBusy
  case true => simp [State.requests, hreset, hbusy, h.decode_seq_of_txBusy hbusy]
  case false =>
    simp only [State.requests, hreset, hbusy, Bool.false_eq_true, if_false, List.append_nil]
    cases decode s.seq <;> decide

end Sys2Proof.Machine
end

section
/-! PROOFS. The tick budget (spec/20_memory.md R47, spec/45_scheduler.md section 3): only `WTICK` starts a cycle, and it pays with the
pending tick. -/

namespace Sys2Proof.Machine

theorem cyclesStarted_append (h h' : List Event) : cyclesStarted (h ++ h') = cyclesStarted h + cyclesStarted h' :=
  List.countP_append

theorem ticksSeen_append (h h' : List Event) : ticksSeen (h ++ h') = ticksSeen h + ticksSeen h' :=
  List.countP_append

namespace State.TickBudget

variable {s t : State} (h : s.TickBudget)
include h

/-- The budget is kept when what new events start and what is pending or due is paid for by new ticks or by what was. -/
theorem of_events {es : List Event} (hhistory : t.history = s.history ++ es)
    (hle : cyclesStarted es + (if t.tickPend then 1 else 0) + (if t.seq = 0x4 then 1 else 0) ≤
      (if s.tickPend then 1 else 0) + (if s.seq = 0x4 then 1 else 0) + ticksSeen es) : t.TickBudget := by
  unfold State.TickBudget at h ⊢
  rw [hhistory, cyclesStarted_append, ticksSeen_append]
  omega

/-- Events that start no cycle, with the pending tick left alone, on the way to any operation but `SAMP 0`. -/
theorem of_uncounted_events {es : List Event} {j : Instr} (hhistory : t.history = s.history ++ es)
    (hes : cyclesStarted es = 0) (htick : t.tickPend = s.tickPend) (hseq : t.seq = encode j) (hj : j ≠ .samp0) :
    t.TickBudget := by
  have hne : t.seq ≠ 0x4 := fun h4 => hj ((decode_encode j).symm.trans (congrArg decode (hseq.symm.trans h4)))
  refine h.of_events hhistory ?_
  rw [hes, htick, if_neg hne]
  omega

theorem faultEntry {f : Cause} {r : State} {es : List Event} (htick : r.tickPend = s.tickPend)
    (hhistory : r.history = s.history ++ es) (hes : cyclesStarted es = 0) : (faultEntry f r).TickBudget := by
  obtain ⟨-, -, htick', -, -⟩ := setFault_fields f.code r
  refine h.of_uncounted_events (es := es ++ [.fault f.code]) ?_ ?_ (htick'.trans htick) rfl (by decide)
  · rw [faultEntry_eq, hhistory, List.append_assoc]
  · rw [cyclesStarted_append, hes]
    rfl

theorem of_move {i : Instr} (hi : decode s.seq = i) (hmove : Move s i t) : t.TickBudget := by
  cases hmove with
  | adcPending | strapPending | noTick | halted | busBusy => exact h
  | calZero | calImplausible => exact h.faultEntry (r := takeAdc _ _ s) rfl rfl rfl
  | calibrated =>
    obtain ⟨-, -, htick, -, -⟩ := setCalValid_fields s
    exact h.of_uncounted_events rfl rfl htick rfl (by decide)
  | idInvalid => exact h.faultEntry (r := takeStrap _ s) rfl rfl rfl
  | identified =>
    obtain ⟨-, -, htick, -, -⟩ := setIdValid_fields s
    exact h.of_uncounted_events rfl rfl htick rfl (by decide)
  | tickTaken hpending =>
    obtain ⟨-, -, htick, -, -⟩ := clearTickPend_fields s
    refine h.of_events (es := []) (List.append_nil _).symm ?_
    rw [show (goTo .samp0 (clearTickPend s)).tickPend = false from htick, hpending]
    show 0 + 0 + 1 ≤ 1 + _ + _
    omega
  | sampled c =>
    cases c
    case ch0 =>
      have hdue : s.seq = 0x4 := (decode_eq_iff _ _).mp hi
      refine h.of_events rfl ?_
      rw [hdue]
      show 1 + (if s.tickPend then 1 else 0) + 0 ≤ (if s.tickPend then 1 else 0) + 1 + 0
      omega
    all_goals exact h.of_uncounted_events rfl rfl rfl rfl (by decide)
  | converted c => exact h.of_uncounted_events (List.append_nil _).symm rfl rfl rfl (by cases c <;> decide)
  | encoded | cycleDone => exact h.of_uncounted_events (List.append_nil _).symm rfl rfl rfl (by decide)
  | handedOver => exact h.of_uncounted_events rfl rfl rfl rfl (by decide)
  | illegal => exact h.faultEntry rfl (List.append_nil _).symm rfl

theorem of_runAct {a : Act} (hact : runAct a s = .next t) : t.TickBudget := by
  obtain rfl | rfl | ⟨adc, strap, hmove, -, -⟩ := runAct_moves hact
  · exact h
  · obtain ⟨-, he⟩ | ⟨-, he⟩ := busComplete_cases s <;> rw [he]
    · exact h.of_events rfl (Nat.le_of_eq (by simp [cyclesStarted, ticksSeen, State.tickPend]))
    · exact h
  · exact of_move (s := { s with adcAns := adc, strapAns := strap }) h rfl hmove

/-- A tick pays for its being pending. -/
theorem timebaseEvent : (timebaseEvent s).TickBudget := by
  obtain ⟨-, he⟩ | ⟨-, he⟩ := timebaseEvent_cases s <;> rw [he]
  · refine h.of_events rfl ?_
    have hle : ∀ pending : Bool, (if pending then 1 else 0) ≤ 1 := by decide
    replace hle := hle (timerTick { s with ptmr := s.cfg.periodCount - 1 }).tickPend
    show 0 + _ + (if s.seq = 0x4 then 1 else 0) ≤ _ + (if s.seq = 0x4 then 1 else 0) + 1
    omega
  · exact h

end State.TickBudget

theorem tickBudget_resetWith (c : Config) : (State.resetWith c).TickBudget := by
  simp [State.TickBudget, cyclesStarted]

theorem tickBudget_resetInput {s : State} (h : s.TickBudget) (a : Bool) : (resetInput a s).TickBudget := by
  cases a
  · exact h
  · exact tickBudget_resetWith s.cfg

theorem tickBudget_step {s t : State} (h : s.TickBudget) (hstep : step s = .next t) : t.TickBudget := by
  have htail : State.TickBudget { s with env := s.env.tail } := h
  obtain ⟨a, -, rfl⟩ | ⟨-, rfl⟩ | ⟨-, a, tb, u, hact, rfl⟩ := step_next_cases hstep
  · exact tickBudget_resetInput htail a
  · exact htail
  · have hu : u.TickBudget := htail.of_runAct hact
    cases tb
    · exact hu
    · exact hu.timebaseEvent

/-- Settles O43: every step keeps the budget, and the cycles started are one of its terms. -/
theorem cyclesNeverExceedTicks : Obligations.CyclesNeverExceedTicks := by
  refine ⟨fun _ _ h hstep => tickBudget_step h hstep, fun s h => ?_⟩
  unfold State.TickBudget at h
  omega

end Sys2Proof.Machine
end

section
/-! PROOFS. The event history is one a telemetry node may produce, and every frame carries its own cycle's samples
(spec/20_memory.md R47, spec/10_state.md R31). -/

namespace Sys2Proof.Machine

/-! ## The observer, one event at a time -/

theorem observe_append (cfg : Config) (h : List Event) (e : Event) :
    observe cfg (h ++ [e]) = (observe cfg h).bind (·.after cfg e) :=
  List.foldl_append

theorem observe_append_of_eq {cfg : Config} {h : List Event} {p : Phase} (hp : observe cfg h = some p) (e : Event) :
    observe cfg (h ++ [e]) = p.after cfg e := by
  rw [observe_append, hp, Option.bind_some]

@[simp] theorem Phase.after_tick (cfg : Config) (p : Phase) : p.after cfg .tick = some p := by
  cases p <;> rfl

/-- The fatal event and the fault that must follow it. -/
theorem observe_fault {s : State} {f : Cause} (h : observe s.cfg s.history = some (.faulting f.code)) :
    observe (faultEntry f s).cfg (faultEntry f s).history = some (faultEntry f s).phase := by
  have hhalted : (faultEntry f s).phase = .halted := by
    simp only [State.phase, faultEntry_seq, decode_encode]
  rw [hhalted, faultEntry_eq]
  exact (observe_append_of_eq h _).trans (if_pos rfl)

/-! ## Exact readings -/

/-- A conversion that answers a reading under a usable calibration answers the quotient. -/
theorem reading_eq_toMv {r m d : Nat} {v : Millivolts} (hd : d ≠ 0) (h : reading r m d = .ok v) :
    v = BitVec.ofNat 16 (toMv r m d) := by
  obtain ⟨h0, -⟩ | ⟨-, -, he⟩ | ⟨-, -, he⟩ := reading_cases r m d
  · exact absurd h0 hd
  · exact (Except.ok.inj (he.symm.trans h)).symm
  · cases he.symm.trans h

/-- The frame of three exact readings is the payload of their samples. -/
theorem memRead_packedFrame_of_converted {s : State} (hwf : s.txbuf.wf)
    (h : s.converted .ch0 ∧ s.converted .ch1 ∧ s.converted .ch2) :
    memRead 0 .eight (packedFrame s.mv s.txbuf) =
      .ok (sampledPayload s.cfg s.calRaw s.raw.ch0 s.raw.ch1 s.raw.ch2) := by
  obtain ⟨h0, h1, h2⟩ := h
  rw [memRead_packedFrame s.mv hwf (by decide) BitVec.extractLsb'_eq_self]
  simp only [State.converted, PerChannel.get] at h0 h1 h2
  rw [h0, h1, h2]
  rfl

/-! ## CORE's move -/

/-- What a move needs of the state to keep the observer's condition: nothing of the answer lines. -/
structure State.Observable (s : State) : Prop where
  /-- the frame buffer is canonical -/
  txbuf_wf : s.txbuf.wf
  /-- `SEQ` holds no reserved code -/
  operation : (decode s.seq).isOperation = true
  /-- a conversion has a divisor -/
  calibrated : ∀ c, decode s.seq = convOf c → s.calRaw ≠ 0
  /-- the history leads to the state's phase -/
  history_phase : observe s.cfg s.history = some s.phase
  /-- the cycle's own data so far -/
  data : s.cycleData

/-- Each operation's events lead the observer to the phase of the next state. -/
theorem Move.history_phase {i : Instr} {s t : State} (hi : decode s.seq = i) (h : s.Observable) (hmove : Move s i t) :
    observe t.cfg t.history = some t.phase := by
  have hp := h.history_phase
  have hnow := hp
  unfold State.phase at hnow
  rw [hi] at hnow
  cases hmove with
  | adcPending | strapPending | noTick | halted | busBusy => exact hp
  | calZero => exact observe_fault (observe_append_of_eq hnow _)
  | calImplausible _ hpos hout =>
    have hwindow := mt (plausible_iff s.cfg _).mpr (Bool.eq_false_iff.mp hout)
    refine observe_fault ((observe_append_of_eq hnow _).trans ?_)
    exact (if_neg hpos).trans (if_neg hwindow)
  | calibrated _ hpos hin =>
    have hwindow := (plausible_iff s.cfg _).mp hin
    refine (observe_append_of_eq hnow _).trans ((if_neg hpos).trans ((if_pos hwindow).trans ?_))
    simp [State.phase]
  | idInvalid _ hwide =>
    refine observe_fault ((observe_append_of_eq hnow _).trans (if_neg ?_))
    exact Nat.not_le.mpr hwide
  | identified _ hfits =>
    refine (observe_append_of_eq hnow _).trans ((if_pos hfits).trans ?_)
    simp [State.phase, strapIdentity]
  | tickTaken => simpa [State.phase] using hnow
  | sampled c =>
    refine (observe_append_of_eq hnow _).trans ?_
    cases c <;> simp [Phase.after, sampOf, channelSelect, State.phase, sampSuccessor, PerChannel.set]
  | converted c => cases c <;> simpa [State.phase, convOf, convSuccessor] using hnow
  | encoded => simpa [State.phase] using hnow
  | handedOver hread =>
    have hdata := h.data
    unfold State.cycleData at hdata
    rw [hi] at hdata
    obtain ⟨hid, hframe⟩ := hdata
    cases hframe.symm.trans hread
    refine (observe_append_of_eq hnow _).trans ((if_pos ⟨hid, rfl⟩).trans ?_)
    simp [State.phase]
  | cycleDone hbusy => simpa [State.phase, hbusy] using hnow
  | illegal hillegal =>
    have hoperation := h.operation
    rw [hi, hillegal] at hoperation
    cases hoperation

/-- Each operation leaves the readings and the frame in step with the samples. -/
theorem Move.cycleData {i : Instr} {s t : State} (hi : decode s.seq = i) (h : s.Observable) (hmove : Move s i t) :
    t.cycleData := by
  have hdata := h.data
  have hnow := hdata
  unfold State.cycleData at hnow
  rw [hi] at hnow
  cases hmove with
  | adcPending | strapPending | noTick | halted | busBusy => exact hdata
  | calZero | calImplausible | idInvalid | illegal => simp [State.cycleData]
  | calibrated | identified | tickTaken | handedOver | cycleDone => simp [State.cycleData]
  | sampled c => cases c <;> simp [State.cycleData, sampSuccessor]
  | @converted c v hv =>
    have hexact := reading_eq_toMv (h.calibrated c hi) hv
    have hnew : (goTo (convSuccessor c) (writeMv c v s)).converted c := by simpa [State.converted] using hexact
    cases c <;> simp only [State.cycleData, convSuccessor, goTo_seq, decode_encode]
    case ch0 => exact hnew
    case ch1 => exact ⟨hnow, hnew⟩
    case ch2 =>
      obtain ⟨h0, h1⟩ := hnow
      exact ⟨h0, h1, hnew⟩
  | encoded =>
    simp only [State.cycleData, goTo_seq, decode_encode]
    exact ⟨rfl, memRead_packedFrame_of_converted h.txbuf_wf hnow⟩

/-! ## One act, one step -/

namespace State.Observed

variable {s t : State} (h : s.Observed)
include h

theorem observable : s.Observable where
  txbuf_wf := h.inv.txbuf_wf
  operation := isOperation_of_stage h.inv.at_stage
  calibrated _ hi := h.inv.calRaw_ne_zero (h.inv.calValid_of_conv hi)
  history_phase := h.history_phase
  data := h.data

theorem busComplete : (busComplete s).Observed := by
  refine ⟨h.inv.busComplete, ?_, ?_⟩ <;> obtain ⟨hbusy, he⟩ | ⟨-, he⟩ := busComplete_cases s
  case refine_1.inr =>
    rw [he]
    exact h.history_phase
  case refine_2.inr =>
    rw [he]
    exact h.data
  case refine_1.inl =>
    have hp := h.history_phase
    rw [State.phase, h.inv.decode_seq_of_txBusy hbusy] at hp
    rw [he, State.phase, h.inv.decode_seq_of_txBusy hbusy]
    rw [hbusy] at hp
    exact observe_append_of_eq hp .busDone
  case refine_2.inl =>
    rw [he, State.cycleData, h.inv.decode_seq_of_txBusy hbusy]
    trivial

theorem timebaseEvent : (timebaseEvent s).Observed := by
  refine ⟨h.inv.timebaseEvent, ?_, ?_⟩ <;> obtain ⟨-, he⟩ | ⟨-, he⟩ := timebaseEvent_cases s <;> rw [he]
  case refine_1.inl => exact (observe_append_of_eq h.history_phase .tick).trans (Phase.after_tick _ _)
  case refine_1.inr => exact h.history_phase
  case refine_2.inl | refine_2.inr => exact h.data

theorem of_runAct {a : Act} (hact : runAct a s = .next t) : t.Observed := by
  have hinv := h.inv.of_runAct hact
  obtain rfl | rfl | ⟨adc, strap, hmove, -, -⟩ := runAct_moves hact
  · exact h
  · exact h.busComplete
  · have hlines : State.Observable { s with adcAns := adc, strapAns := strap } := { h.observable with }
    exact ⟨hinv, hmove.history_phase rfl hlines, hmove.cycleData rfl hlines⟩

end State.Observed

/-- After reset nothing has happened. -/
theorem observed_resetWith {c : Config} (hc : c.wf = true) : (State.resetWith c).Observed where
  inv := inv_resetWith hc
  history_phase := by simp [observe, State.phase, show decode 0x0#4 = .calref from rfl]
  data := by simp [State.cycleData, show decode 0x0#4 = .calref from rfl]

namespace State.Observed

variable {s t : State} (h : s.Observed)
include h

theorem resetInput (a : Bool) : (resetInput a s).Observed := by
  cases a
  · exact { h with inv := h.inv.resetInput false }
  · exact { observed_resetWith h.inv.cfg_wf with inv := h.inv.resetInput true }

theorem of_step (hstep : step s = .next t) : t.Observed := by
  have htail : State.Observed { s with env := s.env.tail } := { h with inv := { h.inv with } }
  obtain ⟨a, -, rfl⟩ | ⟨-, rfl⟩ | ⟨-, a, tb, u, hact, rfl⟩ := step_next_cases hstep
  · exact htail.resetInput a
  · exact htail
  · have hu : u.Observed := htail.of_runAct hact
    cases tb
    · exact hu
    · exact hu.timebaseEvent

end State.Observed

/-- Settles O42: each agent's act keeps the observer's condition, CORE's through the events of its move. -/
theorem historyIsTheTelemetryNodes : Obligations.HistoryIsTheTelemetryNodes :=
  fun _ _ h hstep => h.of_step hstep

/-- Settles O38: a core reset in the reference configuration, which is well formed, has seen nothing. -/
theorem resetMeetsTheInvariants : Obligations.ResetMeetsTheInvariants :=
  have hwf : Config.reference.wf = true := (Config.reference_plausMin_wf_iff 77).mpr (by decide)
  ⟨inv_resetWith hwf, tickBudget_resetWith _, observed_resetWith hwf⟩

end Sys2Proof.Machine
end

section
/-! PROOFS. One step, as the instant that is next decides it: the equations a schedule is run with (spec/20_memory.md section 4,
spec/45_scheduler.md section 4). -/

namespace Sys2Proof.Machine

/-! ## The other agents -/

@[simp] theorem busComplete_seq (s : State) : (busComplete s).seq = s.seq := by
  obtain ⟨-, he⟩ | ⟨-, he⟩ := busComplete_cases s <;> rw [he]

@[simp] theorem timebaseEvent_seq (s : State) : (timebaseEvent s).seq = s.seq := by
  obtain ⟨-, he⟩ | ⟨-, he⟩ := timebaseEvent_cases s <;> simp [he]

theorem busComplete_of_busy {s : State} (h : s.txBusy = true) :
    busComplete s = { s with txBusy := false, history := s.history ++ [.busDone] } := by
  rw [busComplete, if_pos h]
  rfl

theorem busComplete_of_not_busy {s : State} (h : s.txBusy = false) : busComplete s = s := by
  rw [busComplete, h, if_neg Bool.false_ne_true]

theorem timebaseEvent_of_zero {s : State} (h : s.ptmr = 0) : timebaseEvent s =
    { s with ptmr := s.cfg.periodCount - 1, status := s.status ||| 0x04#8, history := s.history ++ [.tick] } := by
  rw [timebaseEvent, if_pos h]
  rfl

theorem timebaseEvent_of_ne_zero {s : State} (h : s.ptmr ≠ 0) : timebaseEvent s = { s with ptmr := s.ptmr - 1 } := by
  rw [timebaseEvent, if_neg h]

/-- Of `STATUS` a timebase event can only set `TICK_PEND`. -/
theorem timebaseEvent_flags (s : State) :
    (timebaseEvent s).calValid = s.calValid ∧ (timebaseEvent s).idValid = s.idValid ∧
    (timebaseEvent s).faultFlag = s.faultFlag ∧ (timebaseEvent s).cause = s.cause ∧
    (s.tickPend = true → (timebaseEvent s).tickPend = true) := by
  obtain ⟨-, he⟩ | ⟨-, he⟩ := timebaseEvent_cases s <;> rw [he]
  · obtain ⟨hcal, hid, htick, hflag, hcause⟩ := setTickPend_fields s
    exact ⟨hcal, hid, hflag, hcause, fun _ => htick⟩
  · exact ⟨rfl, rfl, rfl, rfl, id⟩

/-- Settles O18: the two cases of the counter. -/
theorem timebaseCountsAndTicks : Obligations.TimebaseCountsAndTicks :=
  fun _ => ⟨timebaseEvent_of_zero, timebaseEvent_of_ne_zero⟩

/-- Settles O22: the completion and the spurious one. -/
theorem busCompletes : Obligations.BusCompletes :=
  fun _ => ⟨busComplete_of_busy, busComplete_of_not_busy⟩

/-- Setting a set bit changes nothing. -/
theorem setTickPend_of_pending {s : State} (h : s.tickPend = true) : setTickPend s = s := by
  have hword : ∀ w : StatusWord, w.getLsbD 2 = true → w ||| 0x04#8 = w := by decide
  rw [setTickPend, hword s.status h]

/-- Settles O20: the second tick finds `TICK_PEND` set, so only its event is new. -/
theorem ticksMerge : Obligations.TicksMerge := by
  intro s h
  rw [timerTick, setTickPend_of_pending h, record]

/-- Settles O50: each latched event by the cases of its agent's step. -/
theorem wakeEventsOnlyLatch : Obligations.WakeEventsOnlyLatch := by
  intro s
  obtain ⟨hcal, hid, hflag, hcause, htick⟩ := timebaseEvent_flags s
  refine ⟨?_, hcal, hid, hflag, hcause, htick, ?_⟩
  · obtain ⟨-, he⟩ | ⟨-, he⟩ := timebaseEvent_cases s
    · rw [he, timerTick, record, setTickPend]
    · rw [he]
  · obtain ⟨-, he⟩ | ⟨-, he⟩ := busComplete_cases s <;> rw [he]

/-! ## Responses -/

theorem respond_of_eq {life : Nat} {k : State → Result} {s : State} (h : life = s.lifetime) : respond life k s = k s :=
  if_pos h

/-- A late response is ignored (70_reset_and_hazards.md R145). -/
theorem respond_of_ne {life : Nat} {k : State → Result} {s : State} (h : life ≠ s.lifetime) : respond life k s = .next s :=
  if_neg h

theorem adcAnswers_of_asked {v : Nat} {s : State} (hasks : asksAdc (decode s.seq) = true) (hmax : v ≤ s.cfg.maxCode) :
    adcAnswers v s = exec (decode s.seq) { s with adcAns := some v } := by
  rw [adcAnswers, hasks, decide_eq_true hmax]
  rfl

theorem adcAnswers_of_not_asked {v : Nat} {s : State} (h : asksAdc (decode s.seq) = false) : adcAnswers v s = .next s := by
  rw [adcAnswers, h, Bool.false_and, if_neg Bool.false_ne_true]

theorem strapAnswers_of_asked {b : Bool} {s : State} (h : asksStrap (decode s.seq) = true) :
    strapAnswers b s = exec (decode s.seq) { s with strapAns := some b } := by
  rw [strapAnswers, if_pos h]
  rfl

theorem strapAnswers_of_not_asked {b : Bool} {s : State} (h : asksStrap (decode s.seq) = false) : strapAnswers b s = .next s := by
  rw [strapAnswers, h, if_neg Bool.false_ne_true]

/-- A response nobody asked for is ignored, whatever lifetime it names (20_memory.md R54). -/
theorem respond_of_ignored {life : Nat} {k : State → Result} {s : State} (h : k s = .next s) : respond life k s = .next s := by
  obtain ⟨-, he⟩ | ⟨-, he⟩ := respond_cases life k s
  · exact he.trans h
  · exact he

/-! ## Steps -/

@[simp] theorem thenTimebase_false (r : Result) : thenTimebase false r = r := by
  cases r <;> rfl

section
variable {s : State} {rest : List Instant} (hwf : s.cfg.wf = true)
include hwf

theorem step_of_env_cons {x : Instant} (henv : s.env = x :: rest) : step s = runInstant x { s with env := rest } := by
  rw [step, if_pos hwf, nextInstant, henv]

theorem step_of_reset {a : Bool} (henv : s.env = .reset a :: rest) : step s = .next (resetInput a { s with env := rest }) :=
  step_of_env_cons hwf henv

theorem step_of_resetIn {a : Act} {tb : Bool} (hreset : s.resetIn = true) (henv : s.env = .run a tb :: rest) :
    step s = .next { s with env := rest } :=
  (step_of_env_cons hwf henv).trans (if_pos hreset)

/-- Whether reset is asserted or not, an act with no effect changes nothing but the list. -/
theorem step_of_ignored {a : Act} (henv : s.env = .run a false :: rest)
    (hact : runAct a { s with env := rest } = .next { s with env := rest }) : step s = .next { s with env := rest } := by
  rcases Bool.eq_false_or_eq_true s.resetIn with hreset | hreset
  · exact step_of_resetIn hwf hreset henv
  · rw [step_of_env_cons hwf henv, runInstant, if_neg (by simp [hreset]), hact, thenTimebase_false]

variable (hreset : s.resetIn = false)
include hreset

theorem step_of_run {a : Act} {tb : Bool} (henv : s.env = .run a tb :: rest) :
    step s = thenTimebase tb (runAct a { s with env := rest }) := by
  rw [step_of_env_cons hwf henv, runInstant, if_neg (by simp [hreset])]

theorem step_of_run_alone {a : Act} (henv : s.env = .run a false :: rest) : step s = runAct a { s with env := rest } :=
  (step_of_run hwf hreset henv).trans (thenTimebase_false _)

theorem step_of_env_nil (henv : s.env = []) : step s = exec (decode s.seq) s := by
  rw [step, if_pos hwf, nextInstant, henv]
  simp only [runInstant, hreset, if_neg Bool.false_ne_true, thenTimebase_false]
  rfl

theorem step_of_core (henv : s.env = .run .core false :: rest) : step s = exec (decode s.seq) { s with env := rest } :=
  step_of_run_alone hwf hreset henv

theorem step_of_adcAnswer {v : Nat} (henv : s.env = .run (.adcAnswer s.lifetime v) false :: rest) (hmax : v ≤ s.cfg.maxCode)
    (hasks : asksAdc (decode s.seq) = true) : step s = exec (decode s.seq) { s with env := rest, adcAns := some v } := by
  rw [step_of_run_alone hwf hreset henv, runAct, respond_of_eq (by rfl)]
  exact adcAnswers_of_asked (s := { s with env := rest }) hasks hmax

theorem step_of_strapAnswer {b : Bool} (henv : s.env = .run (.strapAnswer s.lifetime b) false :: rest)
    (hasks : asksStrap (decode s.seq) = true) : step s = exec (decode s.seq) { s with env := rest, strapAns := some b } := by
  rw [step_of_run_alone hwf hreset henv, runAct, respond_of_eq (by rfl)]
  exact strapAnswers_of_asked (s := { s with env := rest }) hasks

theorem step_of_busDone (henv : s.env = .run (.busDone s.lifetime) false :: rest) :
    step s = .next (busComplete { s with env := rest }) := by
  rw [step_of_run_alone hwf hreset henv, runAct, respond_of_eq (by rfl)]

theorem step_of_timebase {a : Act} {t : State} (henv : s.env = .run a true :: rest)
    (hact : runAct a { s with env := rest } = .next t) : step s = .next (timebaseEvent t) := by
  rw [step_of_run hwf hreset henv, hact, thenTimebase, if_pos rfl]

end

theorem asksAdc_iff (w : SeqCode) : asksAdc (decode w) = true ↔ w = 0x0#4 ∨ w = 0x4#4 ∨ w = 0x5#4 ∨ w = 0x6#4 := by
  revert w
  decide

theorem asksStrap_iff (w : SeqCode) : asksStrap (decode w) = true ↔ w = 0x1#4 := by
  revert w
  decide

/-- Settles O27: CORE's moves, alone, beside a timebase event, and with an answer, each by its step equation. -/
theorem stepRunsTheSequencedOperation : Obligations.StepRunsTheSequencedOperation := by
  intro s rest hwf hreset
  refine ⟨step_of_env_nil hwf hreset, step_of_core hwf hreset, fun henv t => step_of_timebase hwf hreset henv,
    fun v henv hmax hseq => step_of_adcAnswer hwf hreset henv hmax ((asksAdc_iff _).mpr hseq), fun b henv hseq => ?_⟩
  rw [step_of_strapAnswer hwf hreset henv ((asksStrap_iff _).mpr hseq), hseq]
  rfl

/-- Settles O53: a completion, an idle instant, TIMER alone in the two cases of its counter, and TIMER beside any act. -/
theorem stepPerformsTheOtherAgents : Obligations.StepPerformsTheOtherAgents := by
  intro s rest hwf hreset
  refine ⟨fun henv hbusy => ?done, fun henv => ?idle, fun henv hzero => ?reload, fun henv hpos => ?count, 
    fun a henv => ?beside⟩
  case done => exact (step_of_busDone hwf hreset henv).trans (congrArg _ (busComplete_of_busy hbusy))
  case idle => exact step_of_run_alone hwf hreset henv
  case reload => exact (step_of_timebase hwf hreset henv rfl).trans (congrArg _ (timebaseEvent_of_zero hzero))
  case count => exact (step_of_timebase hwf hreset henv rfl).trans (congrArg _ (timebaseEvent_of_ne_zero hpos))
  case beside =>
    have halone : step { s with env := .run a false :: rest } = runAct a { s with env := rest } :=
      step_of_run_alone (s := { s with env := .run a false :: rest }) hwf hreset rfl
    refine ⟨fun t ht => step_of_timebase hwf hreset henv (halone.symm.trans ht), fun e he => ?_⟩
    rw [step_of_run hwf hreset henv, halone.symm.trans he, thenTimebase]

/-- Settles O21: `WTICK` clears the pending tick and TIMER, second, sets it again. -/
theorem simultaneousSetWins : Obligations.SimultaneousSetWins := by
  intro s rest hwf hreset hseq htick hzero henv
  have hcore : runAct .core { s with env := rest } = .next (goTo .samp0 (clearTickPend { s with env := rest })) := by
    rw [runAct, coreMove, show decode s.seq = .wtick from hseq ▸ rfl]
    exact execWtick_of_tick htick
  obtain ⟨-, -, hpending, -⟩ := setTickPend_fields (clearTickPend s)
  refine ⟨_, step_of_timebase hwf hreset henv hcore, ?_⟩
  rw [timebaseEvent_of_zero]
  · exact ⟨rfl, hpending, rfl⟩
  · exact hzero

/-- Settles O23: without a request each of the three responses is ignored. -/
theorem spuriousResponsesIgnored : Obligations.SpuriousResponsesIgnored := by
  intro s rest hwf _
  refine ⟨fun life v henv hseq => ?_, fun life b henv hseq => ?_, fun life henv hbusy => ?_⟩
  · have hasks : asksAdc (decode s.seq) = false := by
      rw [Bool.eq_false_iff, Ne, asksAdc_iff]
      tauto
    exact step_of_ignored hwf henv (respond_of_ignored (adcAnswers_of_not_asked hasks))
  · have hasks : asksStrap (decode s.seq) = false := by
      rwa [Bool.eq_false_iff, Ne, asksStrap_iff]
    exact step_of_ignored hwf henv (respond_of_ignored (strapAnswers_of_not_asked hasks))
  · have hdone := busComplete_of_not_busy (s := { s with env := rest }) hbusy
    exact step_of_ignored hwf henv (respond_of_ignored (k := fun t => .next (busComplete t)) (congrArg _ hdone))

end Sys2Proof.Machine
end

section
/-! PROOFS. Reset: what its assertion and its release do, that nothing runs meanwhile, and that a response of an earlier process
lifetime is ignored (spec/70_reset_and_hazards.md). -/

namespace Sys2Proof.Machine

/-! ## Runs of several steps -/

theorem run_succ_of_step {k : Nat} {s t : State} (h : step s = .next t) :
    Host.Core.run core (k + 1) s = Host.Core.run core k t := by
  simp only [Host.Core.run, show core.step s = .next t from h]

/-- A run that answers a next state takes its first step and runs on. -/
theorem run_succ_next_cases {k : Nat} {s t : State} (h : Host.Core.run core (k + 1) s = .next t) :
    ∃ u, step s = .next u ∧ Host.Core.run core k u = .next t := by
  cases hs : step s with
  | next u => exact ⟨u, rfl, (run_succ_of_step hs).symm.trans h⟩
  | fault f =>
    simp [Host.Core.run, show core.step s = .fault f from hs] at h
  | refused q =>
    simp [Host.Core.run, show core.step s = .refused q from hs] at h

/-! ## Reset -/

/-- Settles O24: the fields of the state after reset. -/
theorem resetStateHasTheSpecsValues : Obligations.ResetStateHasTheSpecsValues :=
  ⟨rfl, rfl, rfl, rfl, rfl, fun _ => rfl, rfl⟩

/-- Settles O25: the step is the assertion of reset, whose next state is given whole. -/
theorem resetRestoresEverything : Obligations.ResetRestoresEverything := by
  intro s rest hwf henv
  refine ⟨_, step_of_reset hwf henv, ?_⟩
  rw [resetInput_asserted]
  exact ⟨rfl, rfl, rfl, rfl, rfl, fun _ => rfl, rfl, rfl, rfl, rfl, rfl, requests_of_resetIn rfl, rfl, rfl⟩

/-- Settles O26: a step in reset that does not change the input is the one that stands still. -/
theorem nothingRunsWhileInReset : Obligations.NothingRunsWhileInReset := by
  refine fun s hreset => ⟨requests_of_resetIn hreset, fun hwf hno => ?_⟩
  obtain ⟨hill, -⟩ | ⟨-, x, u, hx, hcase⟩ := step_cases s
  · cases hwf.symm.trans hill
  · have hu : u = { s with env := s.env.tail } := by rw [← nextInstant_state, hx]
    subst hu
    obtain ⟨a, rfl, -⟩ | ⟨a, tb, -, -, he⟩ | ⟨a, tb, -, hrun, -⟩ := hcase
    · exact absurd rfl (hno _ (head?_env_of_nextInstant_reset hx) a)
    · exact he
    · cases hreset.symm.trans hrun

/-- The core after an assertion of reset and its release, with `rest` to come. -/
def State.restarted (s : State) (rest : List Instant) : State :=
  { State.resetWith s.cfg with lifetime := s.lifetime + 1, env := rest }

theorem run_through_reset {k : Nat} {s : State} {rest : List Instant} (hwf : s.cfg.wf = true)
    (henv : s.env = .reset true :: .reset false :: rest) :
    Host.Core.run core (k + 2) s = Host.Core.run core k (s.restarted rest) := by
  have hassert := step_of_reset hwf henv
  have hrelease : step (resetInput true { s with env := .reset false :: rest }) = .next (s.restarted rest) :=
    step_of_reset (s := resetInput true { s with env := .reset false :: rest }) hwf rfl
  exact (run_succ_of_step hassert).trans (run_succ_of_step hrelease)

@[simp] theorem decode_restarted_seq (s : State) (rest : List Instant) : decode (s.restarted rest).seq = .calref :=
  (decode_eq_iff _ _).mpr rfl

/-- Settles O54: the release, and past the assertion and the release the answer that `CALREF` latches. -/
theorem releaseLetsTheCoreStart : Obligations.ReleaseLetsTheCoreStart := by
  refine fun s rest hwf => ⟨step_of_reset hwf, fun v henv hlow hhigh => ?_⟩
  obtain ⟨-, -, -, ⟨hmin, -, hcode⟩, -⟩ := s.cfg.wf_iff.mp hwf
  have hmax : v ≤ s.cfg.maxCode := hhigh.trans hcode
  have hpos : v ≠ 0 := by omega
  have hanswer := step_of_adcAnswer (s := s.restarted (.run (.adcAnswer (s.lifetime + 1) v) false :: rest)) hwf rfl rfl hmax
    (by rw [decode_restarted_seq]; rfl)
  rw [decode_restarted_seq] at hanswer
  have hlatch := execCalref_of_plausible (s := { s.restarted rest with adcAns := some v }) rfl hmax hpos hlow hhigh
  have hrun := (run_through_reset (k := 1) hwf henv).trans (run_succ_of_step (hanswer.trans hlatch))
  exact ⟨_, hrun, rfl, rfl, rfl, BitVec.zero_or, rfl, rfl, rfl⟩

/-- Settles O55: `respond` ignores what names another lifetime, so past the assertion, which starts a new one, and the release the old
answer leaves `CALREF` waiting. -/
theorem lateAnswersAreIgnored : Obligations.LateAnswersAreIgnored := by
  refine ⟨fun s rest life hwf hlate => ⟨fun v henv => ?adc, fun b henv => ?strap, fun henv => ?bus⟩,
    fun s rest v hwf henv => ?restart⟩
  case adc => exact step_of_ignored hwf henv (respond_of_ne hlate)
  case strap => exact step_of_ignored hwf henv (respond_of_ne hlate)
  case bus =>
    exact step_of_ignored hwf henv (respond_of_ne (k := fun t => .next (busComplete t)) (s := { s with env := rest }) hlate)
  case restart =>
    have hold : s.lifetime ≠ (s.restarted rest).lifetime := (Nat.lt_succ_self s.lifetime).ne
    have hlate := step_of_ignored (s := s.restarted _) (rest := rest) (a := .adcAnswer s.lifetime v) hwf rfl (respond_of_ne hold)
    refine ⟨_, (run_through_reset hwf henv).trans (run_succ_of_step hlate), rfl, rfl, rfl, ?_, rfl, rfl⟩
    simp only [State.requests, decode_restarted_seq]
    rfl

end Sys2Proof.Machine
end

section
/-! PROOFS. A core that waits for ever: halted after a fault (spec/60_exceptions.md R129), or in `TXWAIT` over a transmit that never
completes (spec/44_frame_encoder.md R104). -/

namespace Sys2Proof.Machine

/-- The core holds: halted with no transmit outstanding, or waiting for one. -/
def State.Stuck (s : State) : Prop :=
  (decode s.seq = .halt ∧ s.txBusy = false) ∨ (decode s.seq = .txwait ∧ s.txBusy = true)

/-- An instant that neither changes the reset input nor completes a transmit outstanding in `s`. -/
def LeavesStuck (s : State) (x : Instant) : Prop := NoReset x ∧ (s.txBusy = true → NoBusDone x)

/-- From `s` to `t` nothing has happened at CORE and its ports. -/
structure OnlyTicked (s t : State) : Prop where
  seq : t.seq = s.seq
  txBusy : t.txBusy = s.txBusy
  faultFlag : t.faultFlag = s.faultFlag
  cause : t.cause = s.cause
  portEvents : portEvents t.history = portEvents s.history
  env : t.env ⊆ s.env

namespace OnlyTicked

variable {s t u : State}

theorem refl (s : State) : OnlyTicked s s := ⟨rfl, rfl, rfl, rfl, rfl, List.Subset.refl _⟩

theorem trans (h : OnlyTicked s t) (h' : OnlyTicked t u) : OnlyTicked s u where
  seq := h'.seq.trans h.seq
  txBusy := h'.txBusy.trans h.txBusy
  faultFlag := h'.faultFlag.trans h.faultFlag
  cause := h'.cause.trans h.cause
  portEvents := h'.portEvents.trans h.portEvents
  env := List.Subset.trans h'.env h.env

theorem after_tail (s : State) : OnlyTicked s { s with env := s.env.tail } :=
  { refl s with env := List.tail_subset _ }

theorem after_timebaseEvent (s : State) : OnlyTicked s (timebaseEvent s) := by
  obtain ⟨-, -, hflag, hcause, -⟩ := timebaseEvent_flags s
  refine ⟨timebaseEvent_seq s, ?_, hflag, hcause, ?_, ?_⟩ <;>
    obtain ⟨-, he⟩ | ⟨-, he⟩ := timebaseEvent_cases s <;> simp [he, Machine.portEvents]

theorem stuck (h : OnlyTicked s t) (hs : s.Stuck) : t.Stuck := by
  rwa [State.Stuck, h.seq, h.txBusy]

end OnlyTicked

/-- A stuck core asks for nothing and holds, so no act but a completion of its transmit has an effect. -/
theorem runAct_of_stuck {a : Act} {s : State} (h : s.Stuck) (ha : s.txBusy = true → ∀ life, a ≠ .busDone life) :
    runAct a s = .next s := by
  have hquiet : asksAdc (decode s.seq) = false ∧ asksStrap (decode s.seq) = false := by
    obtain ⟨hi, -⟩ | ⟨hi, -⟩ := h <;> rw [hi] <;> exact ⟨rfl, rfl⟩
  obtain ⟨hadc, hstrap⟩ := hquiet
  cases a with
  | core =>
    rw [runAct, coreMove]
    obtain ⟨hi, -⟩ | ⟨hi, hbusy⟩ := h <;> rw [hi]
    · rfl
    · exact execTxwait_of_busy hbusy
  | adcAnswer life v => exact respond_of_ignored (adcAnswers_of_not_asked hadc)
  | strapAnswer life b => exact respond_of_ignored (strapAnswers_of_not_asked hstrap)
  | busDone life =>
    have hbusy : s.txBusy = false := Bool.eq_false_iff.mpr fun hbusy => ha hbusy life rfl
    exact respond_of_ignored (k := fun t => .next (busComplete t)) (congrArg _ (busComplete_of_not_busy hbusy))
  | idle => rfl

/-- The instant that is next is the first of those listed, or CORE's move. -/
theorem nextInstant_cases {s u : State} {x : Instant} (h : nextInstant s = (x, u)) :
    x = .run .core false ∨ x ∈ s.env := by
  unfold nextInstant at h
  split at h
  · cases h
    exact .inl rfl
  · rename_i henv
    cases h
    rw [henv]
    exact .inr (List.mem_cons_self)

theorem step_of_stuck {s t : State} (h : s.Stuck) (henv : ∀ x ∈ s.env, LeavesStuck s x) (hstep : step s = .next t) :
    OnlyTicked s t := by
  obtain ⟨-, he⟩ | ⟨-, x, u, hx, hcase⟩ := step_cases s
  · cases he.symm.trans hstep
  · have hu : u = { s with env := s.env.tail } := by rw [← nextInstant_state, hx]
    have htail : OnlyTicked s u := hu ▸ OnlyTicked.after_tail s
    have hleaves : LeavesStuck s x := by
      obtain rfl | hmem := nextInstant_cases hx
      · exact ⟨nofun, nofun⟩
      · exact henv x hmem
    obtain ⟨hno, hnodone⟩ := hleaves
    obtain ⟨a, rfl, -⟩ | ⟨a, tb, -, -, he⟩ | ⟨a, tb, rfl, -, he⟩ := hcase
    · exact absurd rfl (hno a)
    · cases he.symm.trans hstep
      exact htail
    · rw [runAct_of_stuck (htail.stuck h) fun hbusy life hdone =>
        hnodone (htail.txBusy.symm.trans hbusy) life tb (congrArg (Instant.run · tb) hdone)] at he
      cases he.symm.trans hstep
      cases tb
      · exact htail
      · exact htail.trans (OnlyTicked.after_timebaseEvent u)

theorem run_of_stuck (k : Nat) : ∀ s t : State, s.Stuck → (∀ x ∈ s.env, LeavesStuck s x) →
    Host.Core.run core k s = .next t → OnlyTicked s t := by
  induction k with
  | zero =>
    intro s t _ _ hrun
    cases hrun
    exact .refl s
  | succ k ih =>
    intro s t h henv hrun
    obtain ⟨u, hstep, hrest⟩ := run_succ_next_cases hrun
    have hu : OnlyTicked s u := step_of_stuck h henv hstep
    refine hu.trans (ih u t (hu.stuck h) (fun x hx => ?_) hrest)
    rw [LeavesStuck, hu.txBusy]
    exact henv x (hu.env hx)

/-- Past a fault the invariant has the core in `HALT` with no transmit outstanding. -/
theorem State.Inv.halted_of_faulted {s : State} (h : s.Inv) (hfault : s.faulted = true) :
    decode s.seq = .halt ∧ s.txBusy = false := by
  have hs := h.at_stage
  unfold State.stage at hs
  unfold State.faulted at hfault
  cases hi : decode s.seq <;> simp [hi, State.running, hfault] at hs
  case halt =>
    obtain ⟨-, -, hbusy⟩ := hs
    exact ⟨rfl, hbusy⟩

/-- Settles O48: a faulted core is stuck in `HALT`. -/
theorem faultIsForever : Obligations.FaultIsForever := by
  intro k s t hinv hfault hno hrun
  obtain ⟨hhalt, hbusy⟩ := hinv.halted_of_faulted hfault
  have hleaves : ∀ x ∈ s.env, LeavesStuck s x := fun x hx => ⟨hno x hx, fun h => Bool.noConfusion (hbusy.symm.trans h)⟩
  have h := run_of_stuck k s t (.inl ⟨hhalt, hbusy⟩) hleaves hrun
  exact ⟨h.seq.trans ((decode_eq_iff _ _).mp hhalt), h.faultFlag.trans hfault, h.cause, h.portEvents⟩

/-- Settles O49: a core whose transmit is outstanding is stuck in `TXWAIT`. -/
theorem deadBusHoldsTheCore : Obligations.DeadBusHoldsTheCore := by
  intro k s t hseq hbusy hno hrun
  have hwait : decode s.seq = .txwait := (decode_eq_iff _ _).mpr hseq
  have hleaves : ∀ x ∈ s.env, LeavesStuck s x := fun x hx => (hno x hx).imp_right fun hnodone _ => hnodone
  have h := run_of_stuck k s t (.inr ⟨hwait, hbusy⟩) hleaves hrun
  exact ⟨h.seq.trans hseq, h.txBusy.trans hbusy, h.faultFlag, h.portEvents⟩

end Sys2Proof.Machine
end

section
/-! PROOFS. What the operations write, and where each makes control go: consequences of the cases of a move
(spec/10_state.md section 10, spec/45_scheduler.md sections 2 and 3). -/

namespace Sys2Proof.Machine

/-! ## What each operation leaves alone -/

theorem faultEntered_faultEntry (f : Cause) (s : State) : FaultEntered f.code s (faultEntry f s) := by
  obtain ⟨t, ht, hfault⟩ := raise_enters f s
  cases ht.symm.trans (raise_eq_faultEntry f s)
  exact hfault

@[simp] theorem faultEntry_calValid (f : Cause) (s : State) : (faultEntry f s).calValid = s.calValid := by
  obtain ⟨hcal, -⟩ := (faultEntered_faultEntry f s).flags
  exact hcal

@[simp] theorem faultEntry_idValid (f : Cause) (s : State) : (faultEntry f s).idValid = s.idValid := by
  obtain ⟨-, hid, -⟩ := (faultEntered_faultEntry f s).flags
  exact hid

@[simp] theorem faultEntry_tickPend (f : Cause) (s : State) : (faultEntry f s).tickPend = s.tickPend := by
  obtain ⟨-, -, htick, -⟩ := (faultEntered_faultEntry f s).flags
  exact htick

@[simp] theorem faultEntry_reserved (f : Cause) (s : State) : (faultEntry f s).status.getLsbD 7 = s.status.getLsbD 7 := by
  obtain ⟨-, -, -, hreserved⟩ := (faultEntered_faultEntry f s).flags
  exact hreserved

section
variable {i : Instr} {s t : State} (hmove : Move s i t)
include hmove

/-- No operation writes what belongs to the other agents, or the configuration. -/
theorem Move.frame : t.cfg = s.cfg ∧ t.ptmr = s.ptmr ∧ t.resetIn = s.resetIn ∧ t.lifetime = s.lifetime ∧ t.env = s.env := by
  cases hmove with
  | calZero | calImplausible | idInvalid | illegal => simp [faultEntry_eq]
  | _ => exact ⟨rfl, rfl, rfl, rfl, rfl⟩

theorem Move.reserved : t.status.getLsbD 7 = s.status.getLsbD 7 := by
  obtain ⟨hcal, hid, -, hclear, -⟩ := status_updates_keep_reserved 0 s
  cases hmove with
  | calZero | calImplausible | idInvalid | illegal => exact faultEntry_reserved _ _
  | calibrated => exact hcal
  | identified => exact hid
  | tickTaken => exact hclear
  | _ => rfl

theorem Move.raw_of_ne {c : Channel} (hi : i ≠ sampOf c) : t.raw.get c = s.raw.get c := by
  cases hmove with
  | sampled d => exact PerChannel.get_set_other _ _ fun hcd => hi (congrArg sampOf hcd.symm)
  | calZero | calImplausible | idInvalid | illegal => simp [faultEntry_eq]
  | _ => rfl

theorem Move.mv_of_ne {c : Channel} (hi : i ≠ convOf c) : t.mv.get c = s.mv.get c := by
  cases hmove with
  | converted d => exact PerChannel.get_set_other _ _ fun hcd => hi (congrArg convOf hcd.symm)
  | calZero | calImplausible | idInvalid | illegal => simp [faultEntry_eq]
  | _ => rfl

theorem Move.calibration_of_ne (hi : i ≠ .calref) : t.calRaw = s.calRaw ∧ t.calValid = s.calValid := by
  obtain ⟨hident, -⟩ := setIdValid_fields s
  obtain ⟨hclear, -⟩ := clearTickPend_fields s
  cases hmove with
  | calZero | calImplausible | calibrated => exact absurd rfl hi
  | idInvalid | illegal => exact ⟨by simp [faultEntry_eq], faultEntry_calValid _ _⟩
  | identified => exact ⟨rfl, hident⟩
  | tickTaken => exact ⟨rfl, hclear⟩
  | _ => exact ⟨rfl, rfl⟩

theorem Move.identity_of_ne (hi : i ≠ .resid) : t.devId = s.devId ∧ t.idValid = s.idValid := by
  obtain ⟨-, hlatch, -⟩ := setCalValid_fields s
  obtain ⟨-, hclear, -⟩ := clearTickPend_fields s
  cases hmove with
  | idInvalid | identified => exact absurd rfl hi
  | calZero | calImplausible | illegal => exact ⟨by simp [faultEntry_eq], faultEntry_idValid _ _⟩
  | calibrated => exact ⟨rfl, hlatch⟩
  | tickTaken => exact ⟨rfl, hclear⟩
  | _ => exact ⟨rfl, rfl⟩

theorem Move.frame_registers_of_ne (hi : i ≠ .enc) : t.txid = s.txid ∧ t.txbuf = s.txbuf := by
  cases hmove with
  | encoded => exact absurd rfl hi
  | calZero | calImplausible | idInvalid | illegal => simp [faultEntry_eq]
  | _ => exact ⟨rfl, rfl⟩

theorem Move.tickPend_of_ne (hi : i ≠ .wtick) : t.tickPend = s.tickPend := by
  obtain ⟨-, -, hcal, -⟩ := setCalValid_fields s
  obtain ⟨-, -, hid, -⟩ := setIdValid_fields s
  cases hmove with
  | tickTaken => exact absurd rfl hi
  | calZero | calImplausible | idInvalid | illegal => exact faultEntry_tickPend _ _
  | calibrated => exact hcal
  | identified => exact hid
  | _ => rfl

theorem Move.txBusy_of_ne (hi : i ≠ .txreq) : t.txBusy = s.txBusy := by
  cases hmove with
  | handedOver => exact absurd rfl hi
  | calZero | calImplausible | idInvalid | illegal => simp [faultEntry_eq]
  | _ => rfl

theorem Move.fault_of_ne (hcal : i ≠ .calref) (hid : i ≠ .resid) (hop : i.isOperation = true) :
    t.faultFlag = s.faultFlag ∧ t.cause = s.cause := by
  obtain ⟨-, -, -, hclear⟩ := clearTickPend_fields s
  cases hmove with
  | calZero | calImplausible | calibrated => exact absurd rfl hcal
  | idInvalid | identified => exact absurd rfl hid
  | illegal hillegal => cases hop.symm.trans hillegal
  | tickTaken => exact hclear
  | _ => exact ⟨rfl, rfl⟩

end

/-- Settles O32: the rows of the write matrix, each from the cases of a move. -/
theorem operationsWriteOnlyTheirOwn : Obligations.OperationsWriteOnlyTheirOwn := by
  intro i s t hexec
  have hmove := move_of_exec hexec
  obtain ⟨hcfg, hptmr, hreset, hlife, henv⟩ := hmove.frame
  refine ⟨hcfg, hptmr, hreset, hlife, henv, hmove.reserved, fun _ => hmove.raw_of_ne, fun _ => hmove.mv_of_ne,
    hmove.calibration_of_ne, hmove.identity_of_ne, fun hi => ?frame, hmove.tickPend_of_ne, hmove.txBusy_of_ne,
    hmove.fault_of_ne, fun hi => ?halt⟩
  case frame =>
    obtain ⟨htxid, htxbuf⟩ := hmove.frame_registers_of_ne hi
    exact ⟨htxid, fun a => by rw [htxbuf]⟩
  case halt =>
    subst hi
    exact (Host.Outcome.next.inj hexec).symm

/-! ## Where control goes -/

/-- The ASEL line presents nothing exactly when what stands on it, if anything, is above `MAX_CODE` (20_memory.md R53). -/
theorem adcLine_eq_none_iff (s : State) : adcLine s = none ↔ ∀ v, s.adcAns = some v → s.cfg.maxCode < v := by
  rw [Option.eq_none_iff_forall_ne_some]
  refine forall_congr' fun v => ?_
  rw [Ne, adcLine_eq_some_iff, not_and, Nat.not_le]

/-- Settles O31: the successor of each case of a move, against the row of the table. -/
theorem successorTable : Obligations.SuccessorTable := by
  intro s t hexec
  have hmove := move_of_exec hexec
  have hseq : s.seq = encode (decode s.seq) := (encode_decode _).symm
  generalize decode s.seq = i at hmove hseq ⊢
  cases hmove with
  | adcPending hasks hline =>
    have habove := (adcLine_eq_none_iff s).mp hline
    have hnone : ¬ ∃ v, s.adcAns = some v ∧ v ≤ s.cfg.maxCode :=
      fun ⟨v, hans, hmax⟩ => absurd hmax (Nat.not_le.mpr (habove v hans))
    obtain rfl | ⟨c, rfl⟩ := eq_of_asksAdc hasks
    · cases hans : s.adcAns with
      | none => exact hseq
      | some v => exact hseq.trans (if_pos (habove v hans)).symm
    · cases c <;> exact hseq.trans (if_neg hnone).symm
  | calZero hline =>
    obtain ⟨hans, hmax⟩ := (adcLine_eq_some_iff s _).mp hline
    rw [hans]
    exact ((if_neg (Nat.not_lt.mpr hmax)).trans (if_pos (.inl rfl))).symm
  | calImplausible hline hpos hout =>
    obtain ⟨hans, hmax⟩ := (adcLine_eq_some_iff s _).mp hline
    have hwindow := mt (plausible_iff s.cfg _).mpr (Bool.eq_false_iff.mp hout)
    rw [hans]
    exact ((if_neg (Nat.not_lt.mpr hmax)).trans (if_pos (by omega))).symm
  | calibrated hline hpos hin =>
    obtain ⟨hans, hmax⟩ := (adcLine_eq_some_iff s _).mp hline
    have hwindow := (plausible_iff s.cfg _).mp hin
    rw [hans]
    exact ((if_neg (Nat.not_lt.mpr hmax)).trans (if_neg (by omega))).symm
  | strapPending hans =>
    rw [hans]
    exact hseq
  | idInvalid hans hwide =>
    rw [hans]
    exact (if_pos hwide).symm
  | identified hans hfits =>
    rw [hans]
    exact (if_neg (Nat.not_lt.mpr hfits)).symm
  | noTick htick => exact hseq.trans (if_neg (Bool.eq_false_iff.mp htick)).symm
  | tickTaken htick => exact (if_pos htick).symm
  | halted => exact hseq
  | sampled c hline =>
    have hans := (adcLine_eq_some_iff s _).mp hline
    cases c <;> exact (if_pos ⟨_, hans⟩).symm
  | converted c => cases c <;> rfl
  | encoded | handedOver => rfl
  | busBusy hbusy => exact hseq.trans (if_pos hbusy).symm
  | cycleDone hbusy => exact (if_neg (Bool.eq_false_iff.mp hbusy)).symm
  | illegal hillegal => obtain rfl | rfl | rfl := eq_of_not_isOperation hillegal <;> rfl

/-- Settles O34: `WTICK` holds or takes the tick, and of the nine operations of a cycle only `TXWAIT` leads out of it. -/
theorem schedulerTransitions : Obligations.SchedulerTransitions := by
  intro s t hexec
  have hmove := move_of_exec hexec
  refine ⟨fun hidle => ?idle, fun hactive => ?active⟩
  case idle =>
    rw [State.idle_iff] at hidle
    rw [hidle] at hexec
    cases htick : s.tickPend
    · cases (execWtick_of_no_tick htick).symm.trans hexec
      exact .inl ⟨(State.idle_iff s).mpr hidle, rfl⟩
    · cases (execWtick_of_tick htick).symm.trans hexec
      obtain ⟨-, -, hclear, -⟩ := clearTickPend_fields s
      exact .inr ⟨by simp [State.active_iff], rfl, hclear, rfl⟩
  case active =>
    have hkept : t = s → t.active = true := by
      rintro rfl
      exact hactive
    rw [State.active_iff] at hactive
    generalize decode s.seq = i at hmove hactive ⊢
    cases hmove with
    | adcPending | strapPending | noTick | halted | busBusy => exact .inl (hkept rfl)
    | cycleDone hbusy => exact .inr ⟨by simp [State.idle_iff], rfl, hbusy⟩
    | sampled c | converted c => exact .inl (by cases c <;> simp [State.active_iff, sampSuccessor, convSuccessor])
    | tickTaken | encoded | handedOver => exact .inl (by simp [State.active_iff])
    | illegal hillegal =>
      obtain rfl | rfl | rfl := eq_of_not_isOperation hillegal <;> simp at hactive
    | calZero | calImplausible | calibrated | idInvalid | identified => simp at hactive

/-- No operation leads back to startup but by holding there, or from `CALREF` on to `RESID`. -/
theorem Move.startup {i : Instr} {s t : State} (hi : decode s.seq = i) (hmove : Move s i t) :
    (decode t.seq = .calref → i = .calref) ∧ (decode t.seq = .resid → i = .resid ∨ i = .calref) := by
  cases hmove with
  | adcPending | strapPending | noTick | halted | busBusy => exact ⟨fun h => hi.symm.trans h, fun h => .inl (hi.symm.trans h)⟩
  | calibrated => exact ⟨fun _ => rfl, fun _ => .inr rfl⟩
  | sampled c | converted c => cases c <;> simp [sampSuccessor, convSuccessor]
  | _ => simp

theorem runAct_startup {a : Act} {s t : State} (h : runAct a s = .next t) :
    (decode t.seq = .calref → decode s.seq = .calref) ∧
    (decode t.seq = .resid → decode s.seq = .resid ∨ decode s.seq = .calref) := by
  obtain rfl | rfl | ⟨adc, strap, hmove, -, -⟩ := runAct_moves h
  · exact ⟨id, .inl⟩
  · rw [busComplete_seq]
    exact ⟨id, .inl⟩
  · exact Move.startup (s := { s with adcAns := adc, strapAns := strap }) rfl hmove

/-- Settles O47: CORE's moves do not lead back to startup, and the other agents leave `SEQ` alone. -/
theorem startupIsOneShot : Obligations.StartupIsOneShot := by
  intro s t _ hno hstep
  have hstartup : (decode t.seq = .calref → decode s.seq = .calref) ∧
      (decode t.seq = .resid → decode s.seq = .resid ∨ decode s.seq = .calref) := by
    obtain ⟨a, hhead, -⟩ | ⟨-, rfl⟩ | ⟨-, a, tb, u, hact, rfl⟩ := step_next_cases hstep
    · exact absurd rfl (hno _ hhead a)
    · exact ⟨id, .inl⟩
    · have hu := runAct_startup hact
      cases tb
      · exact hu
      · rw [if_pos rfl, timebaseEvent_seq]
        exact hu
  simp only [decode_eq_iff] at hstartup
  exact hstartup

end Sys2Proof.Machine
end

section
/-! PROOFS. The frame buffer byte by byte: little-endian in both directions (spec/20_memory.md R36), and `TXREQ` over it
(spec/44_frame_encoder.md R102, spec/10_state.md R32). -/

namespace Sys2Proof.Machine

theorem memWrite_of_inside {a : Nat} {n : AccessWidth} (v : Payload) (m : Memory) (h : a + n.bytes ≤ payloadLen) :
    memWrite a n v m = .ok (storeBytes v m a n.bytes) :=
  if_pos h

theorem memWrite_of_outside {a : Nat} {n : AccessWidth} (v : Payload) (m : Memory) (h : payloadLen < a + n.bytes) :
    memWrite a n v m = .error .frameAddressOutside :=
  if_neg (Nat.not_le.mpr h)

theorem memRead_of_inside {a : Nat} {n : AccessWidth} (m : Memory) (h : a + n.bytes ≤ payloadLen) :
    memRead a n m = loadBytes m a n.bytes :=
  if_pos h

theorem memRead_of_outside {a : Nat} {n : AccessWidth} (m : Memory) (h : payloadLen < a + n.bytes) :
    memRead a n m = .error .frameAddressOutside :=
  if_neg (Nat.not_le.mpr h)

theorem AccessWidth.bytes_le (n : AccessWidth) : n.bytes ≤ 8 := by
  cases n <;> decide

/-- Settles O16: the buffer after `storeBytes`, looked up inside and outside the bytes written. -/
theorem frameWriteStoresLittleEndian : Obligations.FrameWriteStoresLittleEndian := by
  refine fun m a n v hwf => ⟨fun hin => ?_, memWrite_of_outside v m⟩
  have hread (x : Nat) := read_storeBytes n.bytes v m a x hwf hin
  refine ⟨_, memWrite_of_inside v m hin, storeBytes_wf _ _ _ _ hwf hin, fun k hk => ?_, fun x hx => ?_⟩
  · rw [hread, if_pos (by omega), Nat.add_sub_cancel_left, BitVec.setWidth_ushiftRight_eq_extractLsb]
  · rw [hread, if_neg (by omega)]

/-- A value with a byte put below it, bit by bit. -/
theorem getLsbD_shiftLeft_or_byte (w : Payload) (b : Byte) (i : Nat) :
    ((w <<< 8) ||| b.setWidth 64).getLsbD i = if i < 8 then b.getLsbD i else decide (i < 64) && w.getLsbD (i - 8) := by
  by_cases hi : i < 8
  · simp [hi, show i < 64 by omega]
  · simp [hi, BitVec.getLsbD_of_ge b i (Nat.not_lt.mp hi)]

theorem extractLsb'_shiftLeft_or_byte_zero (w : Payload) (b : Byte) :
    ((w <<< 8) ||| b.setWidth 64).extractLsb' 0 8 = b := by
  refine BitVec.eq_of_getLsbD_eq fun i hi => ?_
  rw [BitVec.getLsbD_extractLsb', getLsbD_shiftLeft_or_byte, Nat.zero_add, if_pos hi, decide_eq_true hi, Bool.true_and]

/-- The bytes above are the value's own, as long as they are not shifted out. -/
theorem extractLsb'_shiftLeft_or_byte_succ (w : Payload) (b : Byte) {k : Nat} (hk : k < 7) :
    ((w <<< 8) ||| b.setWidth 64).extractLsb' (8 * (k + 1)) 8 = w.extractLsb' (8 * k) 8 := by
  refine BitVec.eq_of_getLsbD_eq fun i hi => ?_
  have hbelow : ¬ 8 * (k + 1) + i < 8 := by omega
  have hin : 8 * (k + 1) + i < 64 := by omega
  have hbit : 8 * (k + 1) + i - 8 = 8 * k + i := by omega
  rw [BitVec.getLsbD_extractLsb', BitVec.getLsbD_extractLsb', getLsbD_shiftLeft_or_byte, if_neg hbelow, decide_eq_true hin,
    hbit, Bool.true_and]

/-- What a load answers: each byte of the buffer at its place, and no bit above them. -/
theorem loadBytes_ok {m : Memory} (n : Nat) : ∀ (a : Nat) (v : Payload), n ≤ 8 → loadBytes m a n = .ok v →
    (∀ k < n, m.read (a + k) = some (v.extractLsb' (8 * k) 8)) ∧ ∀ i, 8 * n ≤ i → v.getLsbD i = false := by
  induction n with
  | zero =>
    intro a v _ h
    cases h
    exact ⟨nofun, fun i _ => BitVec.getLsbD_zero⟩
  | succ n ih =>
    intro a v hn h
    rw [loadBytes] at h
    split at h
    case h_1 b w hb hw =>
      cases h
      obtain ⟨hbytes, hzeros⟩ := ih (a + 1) w (by omega) hw
      refine ⟨fun k hk => ?_, fun i hi => ?_⟩
      · cases k with
        | zero => rw [Nat.add_zero, hb, Nat.mul_zero, extractLsb'_shiftLeft_or_byte_zero]
        | succ k =>
          rw [extractLsb'_shiftLeft_or_byte_succ w b (by omega), ← hbytes k (by omega), Nat.add_right_comm, Nat.add_assoc]
      · rw [getLsbD_shiftLeft_or_byte, if_neg (by omega), hzeros _ (by omega), Bool.and_false]
    all_goals cases h

theorem memRead_ok {m : Memory} {a : Nat} {n : AccessWidth} {v : Payload} (hin : a + n.bytes ≤ payloadLen)
    (h : memRead a n m = .ok v) :
    (∀ k < n.bytes, m.read (a + k) = some (v.extractLsb' (8 * k) 8)) ∧ ∀ i, 8 * n.bytes ≤ i → v.getLsbD i = false :=
  loadBytes_ok n.bytes a v n.bytes_le ((memRead_of_inside m hin).symm.trans h)

/-- Settles O17: what an answered load holds, that it answers once every byte is written, and the access outside. -/
theorem frameReadIsLittleEndian : Obligations.FrameReadIsLittleEndian := by
  refine fun m a n => ⟨fun hin v h => ?bytes, fun hin hsome => ?answers, memRead_of_outside m⟩
  case bytes =>
    obtain ⟨hbytes, hzeros⟩ := memRead_ok hin h
    refine ⟨hbytes, fun k hk => BitVec.eq_of_getLsbD_eq fun i hi => ?_⟩
    rw [BitVec.getLsbD_extractLsb', hzeros _ (by omega), Bool.and_false, BitVec.getLsbD_zero]
  case answers =>
    rw [memRead_of_inside m hin, loadBytes_ok_iff]
    intro x hlow hhigh
    have hx := hsome (x - a) (by omega)
    rwa [Nat.add_sub_cancel' hlow] at hx

/-! ## `TXREQ` -/

/-- Settles O11: of the two outcomes of `TXREQ` only the hand-over has every byte written, and the payload is what the load answers. -/
theorem txreqHandsTheFrameOver : Obligations.TxreqHandsTheFrameOver := by
  refine ⟨rfl, fun s hwritten => ?_⟩
  obtain ⟨p, hp, he⟩ | ⟨⟨a, ha, hnone⟩, -⟩ := execTxreq_cases s
  · obtain ⟨hbytes, -⟩ := memRead_ok (by decide) hp
    refine ⟨p, fun a ha => ?_, he⟩
    have hbyte := hbytes a ha
    rwa [Nat.zero_add] at hbyte
  · obtain ⟨b, hb⟩ := hwritten a ha
    cases hnone.symm.trans hb

/-- Settles O12: an answered load has every byte written, so over an unwritten one `TXREQ` stops. -/
theorem txreqOnUnwrittenByteStops : Obligations.TxreqOnUnwrittenByteStops := by
  rintro s ⟨a, ha, hnone⟩
  obtain ⟨p, hp, -⟩ | ⟨-, he⟩ := execTxreq_cases s
  · obtain ⟨hbytes, -⟩ := memRead_ok (by decide) hp
    have hbyte := hbytes a ha
    rw [Nat.zero_add, hnone] at hbyte
    cases hbyte
  · exact he

end Sys2Proof.Machine
end

section
/-! PROOFS. The outcomes of `CONV c` (spec/42_converter.md R82, R87, R91), once for all three channels. -/

namespace Sys2Proof.Machine

theorem exec_convOf_of_reading {c : Channel} {s : State} {v : Millivolts}
    (h : reading (s.raw.get c) s.cfg.refMv s.calRaw = .ok v) :
    exec (convOf c) s = .next (goTo (convSuccessor c) (writeMv c v s)) := by
  rw [exec_convOf, convertChannel, h]

theorem exec_convOf_of_wide {c : Channel} {s : State} (hd : s.calRaw ≠ 0)
    (hwide : 2 ^ 16 ≤ toMv (s.raw.get c) s.cfg.refMv s.calRaw) : exec (convOf c) s = .fault .quotientTooWide := by
  rw [exec_convOf, convertChannel, reading, if_neg hd, if_neg (Nat.not_lt.mpr hwide)]

theorem reading_of_zero_divisor (r m : Nat) : reading r m 0 = .ok (Config.zeroDivisorResult (r * m)) :=
  if_pos rfl

/-- Settles O6: each channel is one use of the lemma for all channels, over the exact quotient. -/
theorem convOutcomes : Obligations.ConvOutcomes := by
  refine ⟨rfl, rfl, rfl, fun s hd => ⟨fun h => ?_, fun h => ?_, fun h => ?_⟩⟩
  · exact exec_convOf_of_reading (c := .ch0) (reading_of_fits hd h)
  · exact exec_convOf_of_reading (c := .ch1) (reading_of_fits hd h)
  · exact exec_convOf_of_reading (c := .ch2) (reading_of_fits hd h)

/-- Settles O7: the same over the free value. -/
theorem convZeroDivisorCompletes : Obligations.ConvZeroDivisorCompletes := by
  intro s hd
  have hreading (r : Nat) : reading r s.cfg.refMv s.calRaw = .ok (Config.zeroDivisorResult (r * s.cfg.refMv)) := by
    rw [hd, reading_of_zero_divisor]
  refine ⟨?_, ?_, ?_⟩
  · exact exec_convOf_of_reading (c := .ch0) (hreading _)
  · exact exec_convOf_of_reading (c := .ch1) (hreading _)
  · exact exec_convOf_of_reading (c := .ch2) (hreading _)

/-- Settles O8: the stop, in each channel. -/
theorem convTooWideStops : Obligations.ConvTooWideStops := by
  refine fun s hd => ⟨fun h => ?_, fun h => ?_, fun h => ?_⟩
  · exact exec_convOf_of_wide (c := .ch0) hd h
  · exact exec_convOf_of_wide (c := .ch1) hd h
  · exact exec_convOf_of_wide (c := .ch2) hd h

end Sys2Proof.Machine
end

section
/-! PROOFS. `HALT`, the reserved codes, the written-out codes, and the STATUS output (spec/45_scheduler.md R108, spec/30_encoding.md
R57, R58, spec/60_exceptions.md R126, R139). -/

namespace Sys2Proof.Machine

/-- Settles O4: `HALT` is `hold`. -/
theorem haltHolds : Obligations.HaltHolds :=
  ⟨rfl, fun _ => rfl⟩

/-- Settles O14: each reserved code is fault entry with `SEQ_ILLEGAL`. -/
theorem reservedCodesFault : Obligations.ReservedCodesFault :=
  ⟨rfl, rfl, rfl, fun s => ⟨raise_enters .seqIllegal s, raise_enters .seqIllegal s, raise_enters .seqIllegal s⟩⟩

theorem decodeNumber_of_wide {w : Nat} (h : 16 ≤ w) : decodeNumber w = .error .widerThanFourBits :=
  if_neg (Nat.not_lt.mpr h)

/-- Settles O29: the seven codes by evaluation, and the numbers wider than four bits. -/
theorem codesDecodeAsMapped : Obligations.CodesDecodeAsMapped :=
  ⟨rfl, rfl, rfl, rfl, rfl, rfl, rfl, fun _ => decodeNumber_of_wide⟩

/-- The mask of the STATUS output has the seven fields' bits set and the reserved bit clear. -/
theorem getLsbD_statusOut (s : State) (k : Nat) : s.statusOut.getLsbD k = (s.status.getLsbD k && decide (k < 7)) := by
  have hmask : ∀ k < 8, (0x7F#8).getLsbD k = decide (k < 7) := by decide
  rw [State.statusOut, BitVec.getLsbD_and]
  by_cases hk : k < 8
  · rw [hmask k hk]
  · rw [BitVec.getLsbD_of_ge s.status k (Nat.not_lt.mp hk), Bool.false_and, Bool.false_and]

/-- Settles O52: the mask, bit by bit. -/
theorem statusOutputReadsReservedAsZero : Obligations.StatusOutputReadsReservedAsZero := by
  refine ⟨fun s => ?_, fun s k hk => ?_, fun s h => BitVec.eq_of_getLsbD_eq fun k hk => ?_⟩
  · rw [getLsbD_statusOut, decide_eq_false (Nat.lt_irrefl 7), Bool.and_false]
  · rw [getLsbD_statusOut, decide_eq_true hk, Bool.and_true]
  · rw [getLsbD_statusOut]
    obtain rfl | hlow : k = 7 ∨ k < 7 := by omega
    · rw [h.reserved_zero, Bool.false_and]
    · rw [decide_eq_true hlow, Bool.and_true]

end Sys2Proof.Machine
end

section
/-! PROOFS. One whole cycle, from the first sample to the hand-over: each of its steps by an equation, then the eight of them in a row
(spec/10_state.md R31, spec/42_converter.md section 2, spec/44_frame_encoder.md section 1). -/

namespace Sys2Proof.Machine

/-! ## The states of a cycle -/

/-- After `SAMP c` has taken `v`. -/
def afterSample (c : Channel) (v : Nat) (s : State) : State :=
  goTo (sampSuccessor c) (writeRaw c v (takeAdc (channelSelect c) v { s with env := s.env.tail }))

/-- After `CONV c` has written the quotient. -/
def afterConversion (c : Channel) (s : State) : State :=
  goTo (convSuccessor c)
    (writeMv c (BitVec.ofNat 16 (toMv (s.raw.get c) s.cfg.refMv s.calRaw)) { s with env := s.env.tail })

/-- After `ENC`. -/
def afterEncoding (s : State) : State :=
  goTo .txreq { writeTxid s.devId s with txbuf := packedFrame s.mv s.txbuf, env := s.env.tail }

/-- After `TXREQ` has handed `p` over. -/
def afterHandOver (p : Payload) (s : State) : State :=
  goTo .txwait (busTransmit s.txid p { s with env := s.env.tail })

/-- The states from `SAMP 0` to `TXREQ` in which the samples are `v0`, `v1`, `v2`. -/
def afterThreeSamples (v0 v1 v2 : Nat) (s : State) : State :=
  afterSample .ch2 v2 (afterSample .ch1 v1 (afterSample .ch0 v0 s))

def afterThreeConversions (s : State) : State :=
  afterConversion .ch2 (afterConversion .ch1 (afterConversion .ch0 s))

@[simp] theorem afterSample_cfg (c : Channel) (v : Nat) (s : State) : (afterSample c v s).cfg = s.cfg := rfl
@[simp] theorem afterSample_seq (c : Channel) (v : Nat) (s : State) : (afterSample c v s).seq = encode (sampSuccessor c) := rfl
@[simp] theorem afterSample_raw (c : Channel) (v : Nat) (s : State) : (afterSample c v s).raw = s.raw.set c v := rfl
@[simp] theorem afterSample_calRaw (c : Channel) (v : Nat) (s : State) : (afterSample c v s).calRaw = s.calRaw := rfl
@[simp] theorem afterSample_devId (c : Channel) (v : Nat) (s : State) : (afterSample c v s).devId = s.devId := rfl
@[simp] theorem afterSample_resetIn (c : Channel) (v : Nat) (s : State) : (afterSample c v s).resetIn = s.resetIn := rfl
@[simp] theorem afterSample_lifetime (c : Channel) (v : Nat) (s : State) : (afterSample c v s).lifetime = s.lifetime := rfl
@[simp] theorem afterSample_history (c : Channel) (v : Nat) (s : State) :
    (afterSample c v s).history = s.history ++ [.adcRead (channelSelect c) v] := rfl
@[simp] theorem afterSample_env (c : Channel) (v : Nat) (s : State) : (afterSample c v s).env = s.env.tail := rfl

@[simp] theorem afterConversion_cfg (c : Channel) (s : State) : (afterConversion c s).cfg = s.cfg := rfl
@[simp] theorem afterConversion_seq (c : Channel) (s : State) : (afterConversion c s).seq = encode (convSuccessor c) := rfl
@[simp] theorem afterConversion_raw (c : Channel) (s : State) : (afterConversion c s).raw = s.raw := rfl
@[simp] theorem afterConversion_calRaw (c : Channel) (s : State) : (afterConversion c s).calRaw = s.calRaw := rfl
@[simp] theorem afterConversion_devId (c : Channel) (s : State) : (afterConversion c s).devId = s.devId := rfl
@[simp] theorem afterConversion_resetIn (c : Channel) (s : State) : (afterConversion c s).resetIn = s.resetIn := rfl
@[simp] theorem afterConversion_history (c : Channel) (s : State) : (afterConversion c s).history = s.history := rfl
@[simp] theorem afterConversion_env (c : Channel) (s : State) : (afterConversion c s).env = s.env.tail := rfl

/-- The conversions leave the three registers with the exact quotients. -/
theorem converted_afterThreeConversions (s : State) : (afterThreeConversions s).converted .ch0 ∧
    (afterThreeConversions s).converted .ch1 ∧ (afterThreeConversions s).converted .ch2 :=
  ⟨rfl, rfl, rfl⟩

/-! ## The steps of a cycle -/

section
variable {s : State} (h : s.Inv) (hreset : s.resetIn = false)
include h hreset

theorem step_samples {c : Channel} {v : Nat} {rest : List Instant} (hseq : s.seq = encode (sampOf c)) (hmax : v ≤ s.cfg.maxCode)
    (henv : s.env = .run (.adcAnswer s.lifetime v) false :: rest) : step s = .next (afterSample c v s) := by
  have hi : decode s.seq = sampOf c := (decode_eq_iff _ _).mpr hseq
  rw [step_of_adcAnswer h.cfg_wf hreset henv hmax (hi ▸ asksAdc_sampOf c), hi, exec_sampOf, sampleChannel_of_answer c,
    afterSample, henv]
  · rfl
  · rfl
  · exact hmax

theorem step_converts {c : Channel} {rest : List Instant} (hseq : s.seq = encode (convOf c))
    (henv : s.env = .run .core false :: rest) : step s = .next (afterConversion c s) := by
  have hi : decode s.seq = convOf c := (decode_eq_iff _ _).mpr hseq
  have hcal := h.calValid_of_conv hi
  have hfits := (h.toMv_le_largest hcal c).trans_lt (Config.largest_quotient_lt h.cfg_wf)
  have hreading := reading_of_fits (h.calRaw_ne_zero hcal) hfits
  rw [step_of_core h.cfg_wf hreset henv, hi, exec_convOf_of_reading (s := { s with env := rest }) hreading, afterConversion, henv]
  rfl

theorem step_encodes {rest : List Instant} (hseq : s.seq = encode .enc) (henv : s.env = .run .core false :: rest) :
    step s = .next (afterEncoding s) := by
  rw [step_of_core h.cfg_wf hreset henv, (decode_eq_iff _ _).mpr hseq, exec_enc, afterEncoding, henv]
  rfl

theorem step_hands_over {p : Payload} {rest : List Instant} (hseq : s.seq = encode .txreq)
    (hp : memRead 0 .eight s.txbuf = .ok p) (henv : s.env = .run .core false :: rest) :
    step s = .next (afterHandOver p s) := by
  rw [step_of_core h.cfg_wf hreset henv, (decode_eq_iff _ _).mpr hseq, afterHandOver, henv]
  show execTxreq _ = _
  rw [execTxreq, hp]
  rfl

end

/-! ## The cycle -/

theorem run_three_samples {s : State} {v0 v1 v2 k : Nat} {rest : List Instant} (h : s.Inv) (hreset : s.resetIn = false)
    (hseq : s.seq = 0x4#4) (h0 : v0 ≤ s.cfg.maxCode) (h1 : v1 ≤ s.cfg.maxCode) (h2 : v2 ≤ s.cfg.maxCode)
    (henv : s.env = .run (.adcAnswer s.lifetime v0) false :: .run (.adcAnswer s.lifetime v1) false ::
      .run (.adcAnswer s.lifetime v2) false :: rest) :
    Host.Core.run core (k + 3) s = Host.Core.run core k (afterThreeSamples v0 v1 v2 s) ∧
      (afterThreeSamples v0 v1 v2 s).Inv ∧ (afterThreeSamples v0 v1 v2 s).env = rest := by
  have hs0 := step_samples (c := .ch0) h hreset hseq h0 henv
  have hinv1 := h.of_step hs0
  have henv1 : (afterSample .ch0 v0 s).env = _ :: _ :: rest := congrArg List.tail henv
  have hs1 := step_samples (c := .ch1) hinv1 hreset rfl h1 henv1
  have hinv2 := hinv1.of_step hs1
  have henv2 : (afterSample .ch1 v1 (afterSample .ch0 v0 s)).env = _ :: rest := congrArg List.tail henv1
  have hs2 := step_samples (c := .ch2) hinv2 hreset rfl h2 henv2
  exact ⟨(run_succ_of_step hs0).trans ((run_succ_of_step hs1).trans (run_succ_of_step hs2)), hinv2.of_step hs2,
    congrArg List.tail henv2⟩

theorem run_three_conversions {s : State} {k : Nat} {rest : List Instant} (h : s.Inv) (hreset : s.resetIn = false)
    (hseq : s.seq = 0x8#4)
    (henv : s.env = .run .core false :: .run .core false :: .run .core false :: rest) :
    Host.Core.run core (k + 3) s = Host.Core.run core k (afterThreeConversions s) ∧
      (afterThreeConversions s).Inv ∧ (afterThreeConversions s).env = rest := by
  have hs0 := step_converts (c := .ch0) h hreset hseq henv
  have hinv1 := h.of_step hs0
  have henv1 : (afterConversion .ch0 s).env = _ :: _ :: rest := congrArg List.tail henv
  have hs1 := step_converts (c := .ch1) hinv1 hreset rfl henv1
  have hinv2 := hinv1.of_step hs1
  have henv2 : (afterConversion .ch1 (afterConversion .ch0 s)).env = _ :: rest := congrArg List.tail henv1
  have hs2 := step_converts (c := .ch2) hinv2 hreset rfl henv2
  exact ⟨(run_succ_of_step hs0).trans ((run_succ_of_step hs1).trans (run_succ_of_step hs2)), hinv2.of_step hs2,
    congrArg List.tail henv2⟩

/-- `ENC` and `TXREQ` over readings that are all this cycle's hand the frame of its samples over. -/
theorem run_encode_and_hand_over {s : State} {k : Nat} {rest : List Instant} (h : s.Inv) (hreset : s.resetIn = false)
    (hseq : s.seq = 0xC#4) (hconverted : s.converted .ch0 ∧ s.converted .ch1 ∧ s.converted .ch2)
    (henv : s.env = .run .core false :: .run .core false :: rest) :
    Host.Core.run core (k + 2) s = Host.Core.run core k
      (afterHandOver (sampledPayload s.cfg s.calRaw s.raw.ch0 s.raw.ch1 s.raw.ch2) (afterEncoding s)) := by
  have hs0 := step_encodes h hreset hseq henv
  have hinv1 := h.of_step hs0
  have hframe := memRead_packedFrame_of_converted h.txbuf_wf hconverted
  have hs1 := step_hands_over hinv1 hreset rfl hframe (congrArg List.tail henv)
  exact (run_succ_of_step hs0).trans (run_succ_of_step hs1)

/-- Settles O51: three samples, three conversions, the encoding and the hand-over; the samples overwrite whatever earlier cycles left,
and nothing in between writes `CAL_RAW` or `DEV_ID`. -/
theorem cycleTransmitsItsOwnSamples : Obligations.CycleTransmitsItsOwnSamples := by
  intro s v0 v1 v2 rest h hreset hseq h0 h1 h2 henv
  obtain ⟨hsamples, hinv3, henv3⟩ := run_three_samples (k := 5) h hreset hseq h0 h1 h2 henv
  have hreset3 : (afterThreeSamples v0 v1 v2 s).resetIn = false := by
    simpa [afterThreeSamples] using hreset
  have hseq3 : (afterThreeSamples v0 v1 v2 s).seq = 0x8#4 := afterSample_seq .ch2 v2 _
  obtain ⟨hconversions, hinv6, henv6⟩ := run_three_conversions (k := 2) hinv3 hreset3 hseq3 henv3
  have hreset6 : (afterThreeConversions (afterThreeSamples v0 v1 v2 s)).resetIn = false := by
    simpa [afterThreeConversions] using hreset3
  have hframe := run_encode_and_hand_over (k := 0) hinv6 hreset6 (afterConversion_seq .ch2 _) (converted_afterThreeConversions _) henv6
  refine ⟨_, hsamples.trans (hconversions.trans hframe), rfl, rfl, congrArg (fun e => e.tail.tail) henv6, ?_⟩
  simp [afterHandOver, afterEncoding, afterThreeConversions, afterThreeSamples, channelSelect, PerChannel.set]

end Sys2Proof.Machine
end
